-- ==== Sys2Proof/Word.lean ====
section
/-!
DEFINITION. The value types of the block (00_scope.md R7): all unsigned, bits numbered from 0 at the
least significant end.
-/

namespace Sys2Proof

/-- A byte, the atom of every exchange and buffer (R7, R58). -/
abbrev Byte := BitVec 8

/-- A command code or a checksum, the two halves of frame byte 1 (R86). -/
abbrev Nibble := BitVec 4

/-- A rolling code, 16 bits, wrapping modulo 65536 (R4, R23). -/
abbrev RollingCode := BitVec 16

/-- A remote's address, 24 bits (R4, R22). -/
abbrev RemoteAddr := BitVec 24

/-- Seven bytes, byte 0 first: the plain frame (R86) and the obfuscated frame (R87). -/
structure Frame where
  b0 : Byte
  b1 : Byte
  b2 : Byte
  b3 : Byte
  b4 : Byte
  b5 : Byte
  b6 : Byte
  deriving DecidableEq, Repr, Inhabited

end Sys2Proof
end

