-- ==== Sys2Proof/Config.lean ====
section
/-!
DEFINITION. What an implementation fixes and what the environment chooses: the parameters the source names
without a value (00_scope.md R5, R6), and the draws (R11). Nothing here is state of the block.
-/

namespace Sys2Proof

/-- The open parameters of R5. Durations are in milliseconds (DESIGN CHOICE, safe: LOG 6). -/
structure Params where
  readFlag : Byte
  strobeSres : Byte
  strobeSidle : Byte
  strobeStx : Byte
  strobeSftx : Byte
  txbufBurst : Byte
  cfgTable : List (Byte × Byte)
  idReg : Byte
  idExpected : Byte
  preamble : List Byte
  sync : Byte
  symOne : Byte
  symZero : Byte
  fill : Byte
  tSettle : Nat
  tTx : Nat
  tGap : Nat
  deriving DecidableEq, Repr, Inhabited

/-- Why a parameter set is refused as a configuration, one name for each constraint of R6. -/
inductive ConfigProblem where
  /-- R6 (a): the two symbol bytes are equal. -/
  | symbolsEqual
  /-- R6 (b): an address stands twice in the table. -/
  | tableAddressRepeated
  /-- R6 (c): a table address has bits of the read flag. -/
  | tableAddressReads
  /-- R6 (d): two strobe codes are equal. -/
  | strobesEqual
  /-- R6 (e): a preamble byte is neither `0xAA` nor `0x55`. -/
  | preambleByte
  deriving DecidableEq, Repr

/-- No byte stands twice in the list. -/
def allDifferent : List Byte → Bool
  | [] => true
  | b :: bs => !bs.contains b && allDifferent bs

namespace Params

/-- The first constraint of R6 that the set breaks, if any. -/
def problem (p : Params) : Option ConfigProblem :=
  if p.symOne = p.symZero then some .symbolsEqual
  else if !allDifferent (p.cfgTable.map Prod.fst) then some .tableAddressRepeated
  else if !p.cfgTable.all (fun e => e.1 &&& p.readFlag == 0) then some .tableAddressReads
  else if !allDifferent [p.strobeSres, p.strobeSidle, p.strobeStx, p.strobeSftx] then some .strobesEqual
  else if !p.preamble.all (fun b => b == 0xAA || b == 0x55) then some .preambleByte
  else none

/-- N_PRE, the length of the preamble (R5). -/
def nPre (p : Params) : Nat := p.preamble.length

/-- N_CFG, the length of the configuration table (R5). -/
def nCfg (p : Params) : Nat := p.cfgTable.length

/-- TestCfg of 95_test_vectors.md section 0: test values, claimed of no device (G2). -/
def test : Params where
  readFlag := 0x80
  strobeSres := 0x30
  strobeSidle := 0x36
  strobeStx := 0x35
  strobeSftx := 0x3B
  txbufBurst := 0x7F
  cfgTable := [(0x02, 0x0D), (0x08, 0x32), (0x12, 0x30)]
  idReg := 0x31
  idExpected := 0x14
  preamble := [0xAA, 0xAA, 0xAA, 0xAA]
  sync := 0xD3
  symOne := 0xF0
  symZero := 0x0F
  fill := 0x00
  tSettle := 100
  tTx := 100
  tGap := 30

end Params

/-- A configuration: a parameter set that meets R6, so that one that does not cannot reach the machine
("or the model refuses the configuration"). -/
structure Config where
  params : Params
  meets : params.problem = none
  deriving DecidableEq, Repr

namespace Config

/-- R6: accept a parameter set, or refuse it with the name of the constraint it breaks. -/
def make (p : Params) : Except ConfigProblem Config :=
  match h : p.problem with
  | none => .ok ⟨p, h⟩
  | some e => .error e

/-- TestCfg as a configuration, for tests. -/
def test : Config := ⟨.test, by decide⟩

/-- The parameters of the real block, which the source does not print (R5, N3): a free value, no body. -/
opaque rawParams : Params

/-- The machine's configuration after reset: the free parameters where they meet R6 (LOG 1). No proof can
see which they are; the other branch only makes the definition total. -/
def platform : Config :=
  if h : rawParams.problem = none then ⟨rawParams, h⟩ else test

end Config

/-- The transceiver's mode (10_state.md R34, 42 R164). -/
inductive DevMode where
  | unknown
  | reset
  | idle
  | transmit
  deriving DecidableEq, Repr, Inhabited

/-- What the transport does with one exchange (R150). -/
inductive Reply where
  /-- No answer yet: the exchange has neither returned nor failed (U5, R199). -/
  | silent
  /-- The exchange fails (R11 a). -/
  | fail
  /-- The transport hands back these bytes (R11 b). -/
  | bytes (resp : List Byte)
  deriving DecidableEq, Repr, Inhabited

/-- Everything the environment may choose in one micro-step (R8 `draw`, R11), under no law. -/
structure Draw where
  /-- What the transport does, if the step makes an exchange. -/
  reply : Reply
  /-- Whether the device acted on an exchange that failed (R174). -/
  acted : Bool
  /-- How many milliseconds pass, if the step is a wait (R11 d); at least one does (`Draw.passes`, LOG 6). -/
  elapsed : Nat
  /-- Whether the device makes its own move meanwhile, if the step is a wait (R166, R169, U12). -/
  settled : Bool
  /-- The device's mode after an effect the rules leave unspecified (R173). -/
  mode : DevMode
  /-- The device's buffer after an effect the rules leave unspecified (R165, R173). -/
  fifo : List Byte
  /-- What goes on the air by an effect the rules leave unspecified (U3). -/
  air : List (List Byte)
  deriving DecidableEq, Repr, Inhabited

/-- The environment's free draws, by number: no body, so no claim can rest on one (LOG 4). -/
opaque Config.freeDraw : Nat → Draw

/-- What the transceiver's buffer holds when the block is reset, which nothing gives (R39): a free value (LOG 8). -/
opaque Config.resetFifo : List Byte

/-- The byte the identification register returns, a constant of the environment (R164, R175): a free value (LOG 12). -/
opaque Config.devId : Byte

end Sys2Proof
end

