-- ==== Sys2Proof/Syntax.lean ====
section
/-!
DEFINITION. The operations of the block (30_encoding.md R80, R95), one constructor for each row of the
opcode table. Register numbers and codes that a parameter fixes are no operands; what R95 writes after the mnemonic is.
-/

namespace Sys2Proof

/-- The three duration parameters a WAIT may name (R160). -/
inductive Duration where
  /-- `T_SETTLE`, after the reset strobe. -/
  | settle
  /-- `T_TX`, the per-frame transmit wait. -/
  | tx
  /-- `T_GAP`, the inter-frame gap. -/
  | gap
  deriving DecidableEq, Repr

/-- The operations, in the opcode table's order. -/
inductive Instr where
  /-- INIT, R161: the host writes `0x10` to OP. -/
  | init
  /-- SEND stop, R193: the host writes `0x21` to OP. -/
  | sendStop
  /-- SEND up, R193: the host writes `0x22` to OP. -/
  | sendUp
  /-- SEND down, R193: the host writes `0x24` to OP. -/
  | sendDown
  /-- SEND prog, R193: the host writes `0x28` to OP. -/
  | sendProg
  /-- SRES, R155. -/
  | sres
  /-- SIDLE, R156. -/
  | sidle
  /-- STX, R157. -/
  | stx
  /-- SFTX, R158. -/
  | sftx
  /-- WREG, R152. -/
  | wreg (addr value : Byte)
  /-- RREG, R153. -/
  | rreg (addr : Byte)
  /-- BURSTW, R159. -/
  | burstw (payload : List Byte)
  /-- STOP, R116. -/
  | stop (key : Byte) (rc : RollingCode) (addr : RemoteAddr)
  /-- UP, R117. -/
  | up (key : Byte) (rc : RollingCode) (addr : RemoteAddr)
  /-- DOWN, R118. -/
  | down (key : Byte) (rc : RollingCode) (addr : RemoteAddr)
  /-- PROG, R119. -/
  | prog (key : Byte) (rc : RollingCode) (addr : RemoteAddr)
  /-- CKSUM, R111. -/
  | cksum (c : Nibble) (rc : RollingCode)
  /-- BUILD, R112. -/
  | build (key : Byte) (c : Nibble) (rc : RollingCode) (addr : RemoteAddr)
  /-- OBF, R113. -/
  | obf (p : Frame)
  /-- DEOBF, R115. -/
  | deobf (o : Frame)
  /-- ENCODE, R141. -/
  | encode (bytes : List Byte)
  /-- DECODE, R142. -/
  | decode (symbols : List Byte)
  /-- COMPOSE, R192. -/
  | compose (f : Frame)
  /-- WAIT, R160. -/
  | wait (t : Duration)
  deriving DecidableEq, Repr

end Sys2Proof
end

