-- ==== Sys2Proof/Machine/Operands.lean ====
section
/-!
DEFINITION. How every operand is put together (30_encoding.md R90): the command nibble, the byte splits of
RC and ADDR, the frame as a byte list, the read header, and the request bytes of each exchange (R82 to R85).
-/

namespace Sys2Proof

/-- R90 (a): the command code in place, in the high nibble of a byte. -/
def nibbleInPlace (c : Nibble) : Byte := c.setWidth 8 <<< 4

/-- R90 (c): `RC[15:8]`. -/
def rcHigh (rc : RollingCode) : Byte := rc.extractLsb' 8 8

/-- R90 (c): `RC[7:0]`. -/
def rcLow (rc : RollingCode) : Byte := rc.extractLsb' 0 8

/-- R90 (c): `ADDR[23:16]`. -/
def addrHigh (a : RemoteAddr) : Byte := a.extractLsb' 16 8

/-- R90 (c): `ADDR[15:8]`. -/
def addrMid (a : RemoteAddr) : Byte := a.extractLsb' 8 8

/-- R90 (c): `ADDR[7:0]`. -/
def addrLow (a : RemoteAddr) : Byte := a.extractLsb' 0 8

/-- R54: the seven bytes in list order, element 0 first. -/
def Frame.toBytes (f : Frame) : List Byte := [f.b0, f.b1, f.b2, f.b3, f.b4, f.b5, f.b6]

/-- The frame whose bytes are the list's first seven; a missing byte is zero. The machine only meets lists of seven. -/
def Frame.ofBytes (bs : List Byte) : Frame :=
  ⟨bs.getD 0 0, bs.getD 1 0, bs.getD 2 0, bs.getD 3 0, bs.getD 4 0, bs.getD 5 0, bs.getD 6 0⟩

/-- R90 (d): the header of a register read. -/
def readHeader (cfg : Config) (addr : Byte) : Byte := addr ||| cfg.params.readFlag

/-- The duration a WAIT names (R160), in milliseconds. -/
def Duration.value (cfg : Config) : Duration → Nat
  | .settle => cfg.params.tSettle
  | .tx => cfg.params.tTx
  | .gap => cfg.params.tGap

/-- How much time passes in one step of a wait, in milliseconds: as much as is drawn, but time never stands still, so that
every wait ends, as R198 has both sequences end (LOG 6). -/
def Draw.passes (d : Draw) : Nat := max 1 d.elapsed

/-- The seven micro-operations that reach the bus (R80). -/
inductive BusOp where
  | sres
  | sidle
  | stx
  | sftx
  | wreg (addr value : Byte)
  | rreg (addr : Byte)
  | burstw (payload : List Byte)
  deriving DecidableEq, Repr

/-- The request bytes of the exchange: formats X1, X2W, X2R, XB (R82 to R85). -/
def busRequest (cfg : Config) : BusOp → List Byte
  | .sres => [cfg.params.strobeSres]
  | .sidle => [cfg.params.strobeSidle]
  | .stx => [cfg.params.strobeStx]
  | .sftx => [cfg.params.strobeSftx]
  | .wreg addr value => [addr, value]
  | .rreg addr => [readHeader cfg addr, cfg.params.fill]
  | .burstw payload => cfg.params.txbufBurst :: payload

end Sys2Proof
end

