-- ==== Sys2Proof/Machine/Codec.lean ====
section
/-!
DEFINITION. The Frame Codec (40_frame_codec.md): CKSUM, BUILD, OBF, FRAME and the reference inverse DEOBF,
as pure functions (R110). The meanings of the instructions call these.
-/

namespace Sys2Proof

/-- CKSUM, R111 (the formula, 90_conflicts.md C1): the four-term exclusive or, cut to bits 3:0 (D9). -/
def checksum (c : Nibble) (rc : RollingCode) : Nibble :=
  let c1 := nibbleInPlace c
  let t := c1 ^^^ (c1 >>> 4) ^^^ rcLow rc ^^^ rcHigh rc
  t.extractLsb' 0 4

/-- BUILD, R112: the plain frame, defined for all sixteen codes. -/
def buildFrame (key : Byte) (c : Nibble) (rc : RollingCode) (addr : RemoteAddr) : Frame where
  b0 := key
  b1 := nibbleInPlace c ||| (checksum c rc).setWidth 8
  b2 := rcHigh rc
  b3 := rcLow rc
  b4 := addrHigh addr
  b5 := addrMid addr
  b6 := addrLow addr

/-- OBF, R113: the loop runs upward, each byte takes the one before it as already obfuscated. -/
def obfuscate (p : Frame) : Frame :=
  let f1 := p.b1 ^^^ p.b0
  let f2 := p.b2 ^^^ f1
  let f3 := p.b3 ^^^ f2
  let f4 := p.b4 ^^^ f3
  let f5 := p.b5 ^^^ f4
  let f6 := p.b6 ^^^ f5
  ⟨p.b0, f1, f2, f3, f4, f5, f6⟩

/-- DEOBF, R115: the loop runs downward, so the byte before is still obfuscated (90_conflicts.md C7). -/
def deobfuscate (o : Frame) : Frame :=
  let f6 := o.b6 ^^^ o.b5
  let f5 := o.b5 ^^^ o.b4
  let f4 := o.b4 ^^^ o.b3
  let f3 := o.b3 ^^^ o.b2
  let f2 := o.b2 ^^^ o.b1
  let f1 := o.b1 ^^^ o.b0
  ⟨o.b0, f1, f2, f3, f4, f5, f6⟩

/-- FRAME, R114 (a pseudo-operation, R96). -/
def frameOf (key : Byte) (c : Nibble) (rc : RollingCode) (addr : RemoteAddr) : Frame :=
  obfuscate (buildFrame key c rc addr)

end Sys2Proof
end

