-- ==== Sys2Proof/WellFormed.lean ====
section
/-!
DEFINITION. Which operations have operands the spec admits under a configuration. Two have a condition: a
write address (30_encoding.md R83, 00_scope.md R6 c) and the domain of DECODE (41_line_encoder.md R142).
-/

namespace Sys2Proof

/-- R142: the length is a multiple of 8 and every byte is one of the two symbols. -/
def inDecodeDomain (cfg : Config) (symbols : List Byte) : Bool :=
  symbols.length % 8 == 0 && symbols.all (fun b => b == cfg.params.symOne || b == cfg.params.symZero)

/-- R83: a write header never looks like a read header. -/
def isWriteAddress (cfg : Config) (addr : Byte) : Bool :=
  addr &&& cfg.params.readFlag == 0

/-- The operands are ones the spec admits. -/
def Instr.wellFormed (cfg : Config) : Instr → Bool
  | .init => true
  | .sendStop => true
  | .sendUp => true
  | .sendDown => true
  | .sendProg => true
  | .sres => true
  | .sidle => true
  | .stx => true
  | .sftx => true
  | .wreg addr _ => isWriteAddress cfg addr
  | .rreg _ => true
  | .burstw _ => true
  | .stop _ _ _ => true
  | .up _ _ _ => true
  | .down _ _ _ => true
  | .prog _ _ _ => true
  | .cksum _ _ => true
  | .build _ _ _ _ => true
  | .obf _ => true
  | .deobf _ => true
  | .encode _ => true
  | .decode symbols => inDecodeDomain cfg symbols
  | .compose _ => true
  | .wait _ => true

end Sys2Proof
end

