-- ==== Sys2Proof/Decode.lean ====
section
/-!
DEFINITION. Decoding and encoding (30_encoding.md). The block has three spaces of words and nothing but the
place tells them apart (R80, R94): the byte written to OP, the request bytes of an exchange, the plain frame.
No bit pattern selects an internal operation (R80, R97), so those have no encoding.
-/

namespace Sys2Proof

/-- A word of one of the three spaces (R80). -/
inductive Encoding where
  /-- Format H: the byte the host writes to OP (R81). -/
  | hostByte (b : Byte)
  /-- Formats X1, X2W, X2R, XB: the request bytes of one exchange (R82 to R85). -/
  | request (bytes : List Byte)
  /-- Format FR: a plain frame (R86). -/
  | frame (f : Frame)
  deriving DecidableEq, Repr

/-- Why a word is no operation. -/
inductive DecodeError where
  /-- R92: an OP byte that is neither INIT nor a SEND form; the block refuses it with BADOP. -/
  | badOp
  /-- R91: a SEND form, or a frame, whose command code is none of 1, 2, 4, 8; the block refuses it with BADCMD. -/
  | badCommand
  /-- R150: a request has at least one byte. -/
  | emptyRequest
  /-- R93: a one-byte request that is no strobe code and not the burst header. -/
  | unknownStrobe
  /-- R84: a two-byte request with bits of the read flag whose header or second byte no read has. -/
  | badRead
  /-- R94: a request of more than two bytes that does not begin with the burst header. -/
  | unknownRequest
  /-- R112: a frame whose checksum nibble is not the checksum of its command and rolling code. -/
  | badChecksum
  deriving DecidableEq, Repr

/-- Format H, R81 and R191 check 1. -/
def decodeOp (b : Byte) : Except DecodeError Instr :=
  let op : Nibble := b.extractLsb' 4 4
  let c : Nibble := b.extractLsb' 0 4
  if op = 0x1 ∧ c = 0x0 then .ok .init
  else if op = 0x2 then
    if c = 0x1 then .ok .sendStop
    else if c = 0x2 then .ok .sendUp
    else if c = 0x4 then .ok .sendDown
    else if c = 0x8 then .ok .sendProg
    else .error .badCommand
  else .error .badOp

/-- A one-byte request: a strobe (R82). -/
def decodeStrobe (cfg : Config) (h : Byte) : Except DecodeError Instr :=
  if h = cfg.params.strobeSres then .ok .sres
  else if h = cfg.params.strobeSidle then .ok .sidle
  else if h = cfg.params.strobeStx then .ok .stx
  else if h = cfg.params.strobeSftx then .ok .sftx
  else .error .unknownStrobe

/-- A two-byte request: a register write (R83) or a register read (R84). The address of a read is the header
without the flag. -/
def decodeAccess (cfg : Config) (h v : Byte) : Except DecodeError Instr :=
  if isWriteAddress cfg h then .ok (.wreg h v)
  else if h &&& cfg.params.readFlag = cfg.params.readFlag ∧ v = cfg.params.fill then
    .ok (.rreg (h &&& ~~~cfg.params.readFlag))
  else .error .badRead

/-- The request bytes of one exchange, read by their first byte and their length (R94). -/
def decodeRequest (cfg : Config) : List Byte → Except DecodeError Instr
  | [] => .error .emptyRequest
  | h :: rest =>
    if h = cfg.params.txbufBurst then .ok (.burstw rest)
    else match rest with
      | [] => decodeStrobe cfg h
      | [v] => decodeAccess cfg h v
      | _ :: _ :: _ => .error .unknownRequest

/-- The rolling code of a plain frame, big-endian (R55). -/
def Frame.rollingCode (f : Frame) : RollingCode := f.b2 ++ f.b3

/-- The address of a plain frame, most significant byte first (R55). -/
def Frame.address (f : Frame) : RemoteAddr := f.b4 ++ f.b5 ++ f.b6

/-- The command nibble of a plain frame (R86). -/
def Frame.command (f : Frame) : Nibble := f.b1.extractLsb' 4 4

/-- The checksum nibble of a plain frame (R86). -/
def Frame.check (f : Frame) : Nibble := f.b1.extractLsb' 0 4

/-- A plain frame as the command it carries (R116 to R119). -/
def decodeFrame (f : Frame) : Except DecodeError Instr :=
  if f.check ≠ checksum f.command f.rollingCode then .error .badChecksum
  else if f.command = 0x1 then .ok (.stop f.b0 f.rollingCode f.address)
  else if f.command = 0x2 then .ok (.up f.b0 f.rollingCode f.address)
  else if f.command = 0x4 then .ok (.down f.b0 f.rollingCode f.address)
  else if f.command = 0x8 then .ok (.prog f.b0 f.rollingCode f.address)
  else .error .badCommand

/-- Decoding, total on every word of the three spaces. -/
def decode (cfg : Config) : Encoding → Except DecodeError Instr
  | .hostByte b => decodeOp b
  | .request bytes => decodeRequest cfg bytes
  | .frame f => decodeFrame f

/-- Encoding, from the tables of R81 to R86; `none` for an operation no bit pattern selects. -/
def encode (cfg : Config) : Instr → Option Encoding
  | .init => some (.hostByte 0x10)
  | .sendStop => some (.hostByte 0x21)
  | .sendUp => some (.hostByte 0x22)
  | .sendDown => some (.hostByte 0x24)
  | .sendProg => some (.hostByte 0x28)
  | .sres => some (.request (busRequest cfg .sres))
  | .sidle => some (.request (busRequest cfg .sidle))
  | .stx => some (.request (busRequest cfg .stx))
  | .sftx => some (.request (busRequest cfg .sftx))
  | .wreg addr value => some (.request (busRequest cfg (.wreg addr value)))
  | .rreg addr => some (.request (busRequest cfg (.rreg addr)))
  | .burstw payload => some (.request (busRequest cfg (.burstw payload)))
  | .stop key rc addr => some (.frame (buildFrame key 0x1 rc addr))
  | .up key rc addr => some (.frame (buildFrame key 0x2 rc addr))
  | .down key rc addr => some (.frame (buildFrame key 0x4 rc addr))
  | .prog key rc addr => some (.frame (buildFrame key 0x8 rc addr))
  | .cksum _ _ => none
  | .build _ _ _ _ => none
  | .obf _ => none
  | .deobf _ => none
  | .encode _ => none
  | .decode _ => none
  | .compose _ => none
  | .wait _ => none

/-- Byte `i` of a word numbered as the opcode table numbers it: the first byte is bits 7..0. -/
def tableByte (w i : Nat) : Byte := BitVec.ofNat 8 (w >>> (8 * i))

/-- The operation the decoder reads from a table word. The number of bits tells which space it lies in, but for
eight bits, where an OP byte is tried before a strobe or a bare burst header; the parameters are the platform's
(LOG 14). -/
def decodeTableWord (nbits w : Nat) : Option Instr :=
  if nbits = 8 then
    match decodeOp (tableByte w 0) with
    | .ok i => some i
    | .error _ => (decodeRequest Config.platform [tableByte w 0]).toOption
  else if nbits = 16 then (decodeRequest Config.platform [tableByte w 0, tableByte w 1]).toOption
  else if nbits = 56 then
    (decodeFrame ⟨tableByte w 0, tableByte w 1, tableByte w 2, tableByte w 3, tableByte w 4, tableByte w 5,
      tableByte w 6⟩).toOption
  else none

end Sys2Proof
end

