-- ==== Sys2Proof/Machine/State.lean ====
section
/-!
DEFINITION. The state of the machine (10_state.md R20): every register, bit and buffer the spec gives the
block, the transceiver as the rules see it (R33, R34), and the model's own fields (INVENTORY.md, State).
-/

namespace Sys2Proof.Machine

/-- STATUS, host register 1 (R26). The host never writes it, every bit is named and none is reserved, so it is kept
bit by bit; the byte a host reads is `Status.toByte` (Machine/Flags.lean). -/
structure Status where
  /-- bit 0: an operation runs (R67). -/
  busy : Bool
  /-- bit 1: the last accepted operation ended with success. -/
  done : Bool
  /-- bit 2: the last operation written to OP was refused or aborted. -/
  err : Bool
  /-- bit 3: the last INIT that read the identification found another value (R163, R224). -/
  warn : Bool
  /-- bit 4: an INIT has ended with success. -/
  initd : Bool
  /-- bit 5: KEY was written (R24). -/
  kv : Bool
  /-- bit 6: ADDR was written (R24). -/
  av : Bool
  /-- bit 7: RC was written (R24). -/
  rv : Bool
  deriving DecidableEq, Repr, Inhabited

/-- The sequencer position SP (R28). The frame index and the table index are part of it. -/
inductive Pos where
  /-- IDLE: no operation runs. -/
  | idle
  /-- I0: reset strobe. -/
  | i0
  /-- I1: settle wait. -/
  | i1
  /-- I2(j): write of table entry j. R28 lists it for j below N_CFG only. -/
  | i2 (j : Nat)
  /-- I3: identification read and compare. -/
  | i3
  /-- S0: build, encode, compose. -/
  | s0
  /-- S1: enter-idle strobe. -/
  | s1
  /-- S2: flush strobe. -/
  | s2
  /-- Fa(k): burst write. -/
  | fa (k : Fin 9)
  /-- Fb(k): enter-transmit strobe. -/
  | fb (k : Fin 9)
  /-- Fc(k): transmit wait. -/
  | fc (k : Fin 9)
  /-- Fd(k): gap, for k at most 7. -/
  | fd (k : Fin 8)
  /-- S3: commit. -/
  | s3
  deriving DecidableEq, Repr

/-- LKEY, LADDR, LRC, LCMD: the operands of a running SEND (R29). -/
structure Latch where
  key : Byte
  addr : RemoteAddr
  rc : RollingCode
  cmd : Nibble
  deriving DecidableEq, Repr

/-- FRAME, LINE, TXBUF (R30). -/
structure Buffers where
  frame : Frame
  line : List Byte
  txbuf : List Byte
  deriving DecidableEq, Repr

/-- The transceiver's registers, a partial map from address to byte (R33, R164): entries in rising order of
address. A register that is not listed is unspecified; reading it is a draw (R171), no fault (LOG 8). -/
abbrev Memory := List Host.Cell

/-- The transceiver as the rules see it (42 R164). -/
structure Dev where
  mode : DevMode
  regs : Memory
  fifo : List Byte
  /-- The byte the identification register returns, a constant. -/
  id : Byte
  deriving DecidableEq, Repr

/-- The outcome of one exchange as the trace shows it (R10). -/
inductive XResult where
  | ok (resp : List Byte)
  | fail
  deriving DecidableEq, Repr

/-- An event of the trace (R10). -/
inductive Event where
  /-- `X(req, outcome)`: one bus exchange. -/
  | exchange (req : List Byte) (r : XResult)
  /-- `W(T)`: one wait of nominal duration T. -/
  | wait (t : Duration)
  deriving DecidableEq, Repr

/-- A host action (R36). The value is as wide as the widest register; a narrower register takes its low bits (LOG 5). -/
inductive HostAction where
  | read (n : Nat)
  | write (n : Nat) (v : BitVec 24)
  deriving DecidableEq, Repr

/-- Who moves next (R9): the host, the transceiver by its own move (R166, R169), the sequencer, or the reset pin (R260). -/
inductive Turn where
  | host (a : HostAction)
  | device
  | sequencer
  | reset
  deriving DecidableEq, Repr

/-- Why the machine stops. Both stops are safe: a claim about a next state says nothing of them. -/
inductive Fault where
  /-- Raised by DECODE on a list outside its domain (R142: "a model makes it partial or returns an error there"). Safe. -/
  | decodeDomain
  /-- Raised by the sequencer's step at a position that R28 does not list, a table index of N_CFG or more. No run reaches
  one (Safety.lean). Safe. -/
  | notAPosition
  deriving DecidableEq, Repr

/-- Why an instruction has no meaning. -/
inductive Refusal where
  /-- Raised by an arm of `exec` for an instruction not modelled yet; there is none. Safe. -/
  | notModelled (mnemonic : String)
  deriving DecidableEq, Repr

structure State where
  /-- The configuration (R5, R35): constant, no step writes it (LOG 1). -/
  cfg : Config
  /-- KEY, host register 3 (R21). -/
  key : Byte
  /-- ADDR, host register 4 (R22). -/
  addr : RemoteAddr
  /-- RC, host register 5 (R23). -/
  rc : RollingCode
  /-- STATUS, host register 1 (R26). -/
  status : Status
  /-- ERRINFO, host register 2 (R27). -/
  errinfo : BitVec 16
  /-- SP (R28). -/
  sp : Pos
  /-- LKEY, LADDR, LRC, LCMD (R29). -/
  latch : Latch
  /-- FRAME, LINE, TXBUF (R30). -/
  bufs : Buffers
  /-- WT (R31), in milliseconds still to pass. -/
  wt : Nat
  /-- RDV (R32). -/
  rdv : Byte
  /-- The transceiver (R33, R34). -/
  dev : Dev
  /-- Model: the value of the last pure function performed as an instruction (LOG 10). -/
  out : List Byte
  /-- Model: the trace (R10), oldest event first. -/
  trace : List Event
  /-- Model: what went on the air (R168, R200), oldest first. -/
  air : List (List Byte)
  /-- Model: the value of the last host read (R36). -/
  hostData : BitVec 24
  /-- Model: who moves next; empty means the sequencer (LOG 5). -/
  turns : List Turn
  /-- Model: the environment's draws already fixed (LOG 4). -/
  env : List Draw
  /-- Model: how many draws were made, the number of the next free one (LOG 4). -/
  drawn : Nat
  deriving DecidableEq, Repr

/-- After the block's reset (R39). STATUS, ERRINFO, SP and WT are the spec's; the registers, latches and buffers
it leaves unspecified are zero (DESIGN CHOICE, unsafe: LOG 3); the transceiver is not reset, its mode is UNKNOWN. -/
def State.reset : State where
  cfg := Config.platform
  key := 0
  addr := 0
  rc := 0
  status := ⟨false, false, false, false, false, false, false, false⟩
  errinfo := 0
  sp := .idle
  latch := ⟨0, 0, 0, 0⟩
  bufs := ⟨⟨0, 0, 0, 0, 0, 0, 0⟩, List.replicate 56 0, List.replicate (Config.platform.params.nPre + 57) 0⟩
  wt := 0
  rdv := 0
  dev := ⟨.unknown, [], Config.resetFifo, Config.devId⟩
  out := []
  trace := []
  air := []
  hostData := 0
  turns := []
  env := []
  drawn := 0

end Sys2Proof.Machine
end

