-- ==== Sys2Proof/Machine/Flags.lean ====
section
/-!
DEFINITION. STATUS and ERRINFO: the byte a host reads (10_state.md R26), the error word (R27), the codes of
KIND and PHASE (60_exceptions.md R221, R222), and what each event does to the flags.
-/

namespace Sys2Proof.Machine

/-- STATUS as a byte: bit 0 BUSY, 1 DONE, 2 ERR, 3 WARN, 4 INITD, 5 KV, 6 AV, 7 RV (R26). -/
def Status.toByte (st : Status) : Byte :=
  BitVec.ofBool st.rv ++ BitVec.ofBool st.av ++ BitVec.ofBool st.kv ++ BitVec.ofBool st.initd ++
    BitVec.ofBool st.warn ++ BitVec.ofBool st.err ++ BitVec.ofBool st.done ++ BitVec.ofBool st.busy

/-- KIND (R221). The codes 7 to 15 are reserved and have no name: they are never written. -/
inductive Kind where
  | none
  | transport
  | badOp
  | badCmd
  | reinit
  | noInit
  | noId
  deriving DecidableEq, Repr

/-- The code of a KIND (R221). -/
def Kind.code : Kind → Nibble
  | .none => 0x0
  | .transport => 0x1
  | .badOp => 0x2
  | .badCmd => 0x3
  | .reinit => 0x4
  | .noInit => 0x5
  | .noId => 0x6

/-- PHASE (R222). The codes 7 to 15 are reserved and have no name. -/
inductive Phase where
  | none
  | initReset
  | initCfg
  | initId
  | sendIdle
  | sendFlush
  | sendFrame
  deriving DecidableEq, Repr

/-- The code of a PHASE (R222). -/
def Phase.code : Phase → Nibble
  | .none => 0x0
  | .initReset => 0x1
  | .initCfg => 0x2
  | .initId => 0x3
  | .sendIdle => 0x4
  | .sendFlush => 0x5
  | .sendFrame => 0x6

/-- The phase of a position (R222). A position no exchange is made at has none (LOG 15). -/
def Pos.phase : Pos → Phase
  | .i0 => .initReset
  | .i2 _ => .initCfg
  | .i3 => .initId
  | .s1 => .sendIdle
  | .s2 => .sendFlush
  | .fa _ => .sendFrame
  | .fb _ => .sendFrame
  | .idle => .none
  | .i1 => .none
  | .s0 => .none
  | .fc _ => .none
  | .fd _ => .none
  | .s3 => .none

/-- The index of a position (R222), 0 where it has none. -/
def Pos.index : Pos → BitVec 8
  | .i2 j => BitVec.ofNat 8 j
  | .fa k => BitVec.ofNat 8 k.val
  | .fb k => BitVec.ofNat 8 k.val
  | .i0 => 0
  | .i3 => 0
  | .s1 => 0
  | .s2 => 0
  | .idle => 0
  | .i1 => 0
  | .s0 => 0
  | .fc _ => 0
  | .fd _ => 0
  | .s3 => 0

/-- `(KIND << 12) OR (PHASE << 8) OR INDEX` (R27, R197). -/
def errorWord (kind : Kind) (phase : Phase) (index : BitVec 8) : BitVec 16 :=
  (kind.code.setWidth 16 <<< 12) ||| (phase.code.setWidth 16 <<< 8) ||| index.setWidth 16

/-- An OP write accepted for decoding clears DONE and ERR and nothing else of STATUS (R190). -/
def Status.clearOutcome (st : Status) : Status := { st with done := false, err := false }

/-- An error sets ERR and clears BUSY (R229); the other bits stay. -/
def Status.fail (st : Status) : Status := { st with err := true, busy := false }

/-- The acceptance of INIT (R161). -/
def Status.startInit (st : Status) : Status := { st with busy := true, warn := false }

/-- The acceptance of SEND (R193). -/
def Status.startSend (st : Status) : Status := { st with busy := true }

/-- The end of INIT at I3 (R161): WARN is the compare. -/
def Status.endInit (st : Status) (mismatch : Bool) : Status :=
  { st with warn := mismatch, initd := true, done := true, busy := false }

/-- The end of SEND at S3 (R193). -/
def Status.endSend (st : Status) : Status := { st with done := true, busy := false }

/-- KV, AV and RV all set (R24, R191). -/
def Status.identityValid (st : Status) : Bool := st.kv && st.av && st.rv

end Sys2Proof.Machine
end

