-- ==== Sys2Proof/Machine/LineCode.lean ====
section
/-!
DEFINITION. The Line Encoder (41_line_encoder.md) and the composite buffer (43_sequencer.md R192), as pure
functions. The meanings of the instructions call these.
-/

namespace Sys2Proof

/-- The bits of a byte, most significant first (R56). -/
def bitsOf (b : Byte) : List Bool :=
  [b.getLsbD 7, b.getLsbD 6, b.getLsbD 5, b.getLsbD 4, b.getLsbD 3, b.getLsbD 2, b.getLsbD 1, b.getLsbD 0]

/-- Format SY, R88: the symbol byte of one bit. -/
def symbolOf (cfg : Config) (bit : Bool) : Byte :=
  if bit then cfg.params.symOne else cfg.params.symZero

/-- ENCODE, R141: one symbol byte for each input bit, bytes in order, most significant bit first. -/
def encodeLine (cfg : Config) (bytes : List Byte) : List Byte :=
  bytes.flatMap fun b => (bitsOf b).map (symbolOf cfg)

/-- R142: a symbol byte read as one bit. -/
def bitOf (cfg : Config) (symbol : Byte) : Bool := symbol == cfg.params.symOne

/-- The byte whose bits these are, bit 7 first. -/
def byteOfBits (b7 b6 b5 b4 b3 b2 b1 b0 : Bool) : Byte :=
  BitVec.ofBool b7 ++ BitVec.ofBool b6 ++ BitVec.ofBool b5 ++ BitVec.ofBool b4 ++
    BitVec.ofBool b3 ++ BitVec.ofBool b2 ++ BitVec.ofBool b1 ++ BitVec.ofBool b0

/-- DECODE, R142, on its domain: eight symbols make one byte. A list of another length is outside the domain
and its meaning stops before this function is asked. -/
def decodeLine (cfg : Config) : List Byte → List Byte
  | s7 :: s6 :: s5 :: s4 :: s3 :: s2 :: s1 :: s0 :: rest =>
    byteOfBits (bitOf cfg s7) (bitOf cfg s6) (bitOf cfg s5) (bitOf cfg s4)
      (bitOf cfg s3) (bitOf cfg s2) (bitOf cfg s1) (bitOf cfg s0) :: decodeLine cfg rest
  | _ => []

/-- COMPOSE, R192, format TB (R89): preamble and sync as they are, then the line code of the frame. -/
def composeBuffer (cfg : Config) (f : Frame) : List Byte :=
  cfg.params.preamble ++ [cfg.params.sync] ++ encodeLine cfg f.toBytes

end Sys2Proof
end

