-- ==== Sys2Proof/Machine/Ops.lean ====
section
/-!
DEFINITION. The named operations every meaning is made of: draws, the transceiver's registers, the
transceiver's effects, taking an error and clearing it, moving SP, the exchange, the wait, accepting a host operation.
-/

namespace Sys2Proof.Machine

/-! ## Draws (00_scope.md R8, R11) -/

/-- What the environment chooses next: the first draw already fixed, else the free one of this number (LOG 4). -/
def State.nextDraw (s : State) : Draw := s.env.headD (Config.freeDraw s.drawn)

/-- The draw is used up. -/
def State.drawNext (s : State) : State := { s with env := s.env.tail, drawn := s.drawn + 1 }

/-! ## The transceiver's registers (10_state.md R33) -/

/-- The register at an address; none means unspecified. -/
def Memory.read? (m : Memory) (a : Nat) : Option Byte :=
  match m with
  | [] => none
  | c :: rest => if c.1 = a then some c.2 else Memory.read? rest a

/-- Store a byte at an address; the list stays in rising order. -/
def Memory.write (m : Memory) (a : Nat) (v : Byte) : Memory :=
  match m with
  | [] => [(a, v)]
  | c :: rest =>
    if a < c.1 then (a, v) :: c :: rest
    else if a = c.1 then (a, v) :: rest
    else c :: Memory.write rest a v

/-- Every address of the list is above `lo`, each above the one before. -/
def Memory.risesFrom (lo : Nat) : Memory → Bool
  | [] => true
  | c :: rest => decide (lo ≤ c.1) && Memory.risesFrom (c.1 + 1) rest

/-- The canonical form: addresses strictly rising, each a byte's (R52). Nothing reads as unspecified once it is
listed, so no entry says what an unlisted address says. -/
def Memory.wf (m : Memory) : Bool := Memory.risesFrom 0 m && m.all (fun c => decide (c.1 < 256))

/-! ## The transceiver (42_transceiver_interface.md section 6) -/

/-- An effect the rules leave unspecified: the device's state becomes a draw (R173, U3). Its registers become
unspecified; `id` is a constant. -/
def Dev.unspecified (dev : Dev) (d : Draw) : Dev := { dev with mode := d.mode, regs := [], fifo := d.fifo }

/-- The device's own move (R166, R169): out of RESET or TRANSMIT into IDLE. -/
def Dev.ownMove (dev : Dev) : Dev :=
  match dev.mode with
  | .reset => { dev with mode := .idle }
  | .transmit => { dev with mode := .idle }
  | .idle => dev
  | .unknown => dev

/-- What the device becomes by a micro-operation it takes: R165 SRES, R167 SIDLE, R168 STX, R170 SFTX, R171 WREG and
RREG, R172 BURSTW; in a mode those rules do not give, unspecified (R173). The device acts on the micro-operation, not on its header: a
header that equals another code (a table address equal to a strobe code or to TXBUF_BURST) changes nothing here, where R277
and N11 leave open how the device decodes headers (DESIGN CHOICE, unsafe: LOG 20). -/
def Dev.act (op : BusOp) (d : Draw) (dev : Dev) : Dev :=
  match op with
  | .sres => { dev with mode := .reset, regs := [], fifo := d.fifo }
  | .sidle =>
    match dev.mode with
    | .idle => { dev with mode := .idle }
    | .transmit => { dev with mode := .idle }
    | .reset => dev.unspecified d
    | .unknown => dev.unspecified d
  | .stx => if dev.mode = .idle then { dev with mode := .transmit, fifo := [] } else dev.unspecified d
  | .sftx => if dev.mode = .idle then { dev with fifo := [] } else dev.unspecified d
  | .wreg addr value =>
    if dev.mode = .idle then { dev with regs := dev.regs.write addr.toNat value } else dev.unspecified d
  | .rreg _ => if dev.mode = .idle then dev else dev.unspecified d
  | .burstw payload => if dev.mode = .idle then { dev with fifo := dev.fifo ++ payload } else dev.unspecified d

/-- What goes on the air by it: STX in IDLE sends the buffer (R168); an unspecified effect sends whatever is drawn (U3).
SRES, and SIDLE in IDLE or TRANSMIT, send nothing. -/
def Dev.airOf (op : BusOp) (d : Draw) (dev : Dev) : List (List Byte) :=
  match op with
  | .sres => []
  | .sidle =>
    match dev.mode with
    | .idle => []
    | .transmit => []
    | .reset => d.air
    | .unknown => d.air
  | .stx => if dev.mode = .idle then [dev.fifo] else d.air
  | .sftx => if dev.mode = .idle then [] else d.air
  | .wreg _ _ => if dev.mode = .idle then [] else d.air
  | .rreg _ => if dev.mode = .idle then [] else d.air
  | .burstw _ => if dev.mode = .idle then [] else d.air

/-- What byte 1 of the answer to a register read is in IDLE: the identification, or the register if it is defined
(R171); none leaves it to the draw. -/
def Dev.readAnswer (cfg : Config) (addr : Byte) (dev : Dev) : Option Byte :=
  if dev.mode = .idle then
    if addr = cfg.params.idReg then some dev.id else dev.regs.read? addr.toNat
  else none

/-- The response of an exchange that is answered: the drawn bytes, but byte 1 of a register read is the device's
where R171 gives it. -/
def Dev.respond (cfg : Config) (op : BusOp) (resp : List Byte) (dev : Dev) : List Byte :=
  match op with
  | .rreg addr =>
    match dev.readAnswer cfg addr with
    | some v => resp.set 1 v
    | none => resp
  | .sres => resp
  | .sidle => resp
  | .stx => resp
  | .sftx => resp
  | .wreg _ _ => resp
  | .burstw _ => resp

/-- The device takes the micro-operation. -/
def State.deviceActs (s : State) (op : BusOp) (d : Draw) : State :=
  { s with dev := s.dev.act op d, air := s.air ++ s.dev.airOf op d }

/-- The device moves by itself. -/
def State.deviceMoves (s : State) : State := { s with dev := s.dev.ownMove }

/-! ## Errors (60_exceptions.md R229) and their clearing (R190, R230) -/

/-- Taking an error, in refusals and aborts alike: ERR, ERRINFO, BUSY = 0, SP = IDLE; nothing else (R229). -/
def State.takeError (s : State) (kind : Kind) (phase : Phase) (index : BitVec 8) : State :=
  { s with status := s.status.fail, errinfo := errorWord kind phase index, sp := .idle }

/-- `raise Transport(phase, index)` with the phase and index of the position SP holds (R151, R197). -/
def State.raiseTransport (s : State) : State := s.takeError .transport s.sp.phase s.sp.index

/-- `refuse Kind` (R191): PHASE and INDEX zero. -/
def State.refuseOp (s : State) (kind : Kind) : State := s.takeError kind .none 0

/-- An OP write accepted for decoding clears DONE, ERR and ERRINFO (R190): the block's whole return from an error (R230). -/
def State.clearOutcome (s : State) : State := { s with status := s.status.clearOutcome, errinfo := 0 }

/-! ## SP (43_sequencer.md R198) -/

/-- The class of a transmission (R195): a label, nothing depends on it. -/
inductive TxClass where
  | first
  | repeated
  deriving DecidableEq, Repr

/-- The first two transmissions are `first`, the other seven repeats (R195). -/
def txClass (k : Fin 9) : TxClass := if k.val ≤ 1 then .first else .repeated

/-- The next position after a micro-step that did not raise (R198). -/
def Pos.next (cfg : Config) : Pos → Pos
  | .idle => .idle
  | .i0 => .i1
  | .i1 => if 0 < cfg.params.nCfg then .i2 0 else .i3
  | .i2 j => if j + 1 < cfg.params.nCfg then .i2 (j + 1) else .i3
  | .i3 => .idle
  | .s0 => .s1
  | .s1 => .s2
  | .s2 => .fa 0
  | .fa k => .fb k
  | .fb k => .fc k
  | .fc k => if h : k.val < 8 then .fd ⟨k.val, h⟩ else .s3
  | .fd k => .fa ⟨k.val + 1, by omega⟩
  | .s3 => .idle

/-- The lines of position I3 after its read (R161): the compare, and the end of INIT. -/
def State.endInit (s : State) : State :=
  { s with status := s.status.endInit (s.rdv != s.cfg.params.idExpected), sp := .idle }

/-- Position S3 (R196): the commit, and the end of SEND. -/
def State.commit (s : State) : State :=
  { s with rc := s.latch.rc + 1, status := s.status.endSend, sp := .idle }

/-- A micro-step that did not raise is over: SP takes the next position (R198); at I3 INIT ends (R161). -/
def State.proceed (s : State) : State :=
  match s.sp with
  | .i3 => s.endInit
  | p => { s with sp := p.next s.cfg }

/-! ## The exchange (R150, R151) and the wait (R160) -/

/-- An event is added to the trace. -/
def State.log (s : State) (e : Event) : State := { s with trace := s.trace ++ [e] }

/-- A failed exchange: the device acted or not, as drawn (R174, D29); the event; the error. -/
def State.exchangeFails (s : State) (op : BusOp) (d : Draw) : State :=
  let s1 := if d.acted then s.deviceActs op d else s
  (s1.log (.exchange (busRequest s.cfg op) .fail)).raiseTransport

/-- An exchange that returned: the device acted; the event; what the micro-operation does with the response; SP goes on. -/
def State.exchangeReturns (s : State) (op : BusOp) (d : Draw) (resp : List Byte)
    (use : List Byte → State → State) : State :=
  let answer := s.dev.respond s.cfg op resp
  (use answer ((s.deviceActs op d).log (.exchange (busRequest s.cfg op) (.ok answer)))).proceed

/-- `Xchg` (R150) and the case split of every bus micro-operation. A response of another length than the request's
counts as a failure (D28). While the transport is silent the step is not over and nothing moves (U5). -/
def State.exchange (s : State) (op : BusOp) (use : List Byte → State → State) : State :=
  let d := s.nextDraw
  let s := s.drawNext
  match d.reply with
  | .silent => s
  | .fail => s.exchangeFails op d
  | .bytes resp =>
    if resp.length = (busRequest s.cfg op).length then s.exchangeReturns op d resp use
    else s.exchangeFails op d

/-- No response byte is interpreted (R154). -/
def dropResponse (_ : List Byte) (s : State) : State := s

/-- RDV takes response byte 1 (R153, D11). -/
def takeReadValue (resp : List Byte) (s : State) : State := { s with rdv := resp.getD 1 0 }

/-- WT takes a value (R31). -/
def State.setTimer (s : State) (n : Nat) : State := { s with wt := n }

/-- A wait begins: the event, and the timer (R160, R31). -/
def State.beginWait (s : State) (t : Duration) : State := (s.log (.wait t)).setTimer (t.value s.cfg)

/-- Time passes while the timer runs (R31), at least a millisecond a step, the device moving or not (U12); at zero the
step ends. -/
def State.passTime (s : State) (d : Draw) : State :=
  let s := if d.settled then s.deviceMoves else s
  if s.wt ≤ d.passes then (s.setTimer 0).proceed else s.setTimer (s.wt - d.passes)

/-- WAIT (R160): it begins when no wait is pending (R31) and ends no earlier than its duration. -/
def State.waitFor (s : State) (t : Duration) : State :=
  let d := s.nextDraw
  let s := s.drawNext
  (if s.wt = 0 then s.beginWait t else s).passTime d

/-! ## Host operations (43_sequencer.md R190, R191) -/

/-- An OP write: dropped whole under BUSY (R37); else the old outcome is cleared and the byte acted on (R190). -/
def State.writeOp (s : State) (act : State → State) : State :=
  if s.status.busy then s else act s.clearOutcome

/-- INIT passes check 2 or is refused (R191); its acceptance (R161). -/
def State.acceptInit (s : State) : State :=
  if s.status.initd then s.refuseOp .reinit
  else { s with status := s.status.startInit, sp := .i0 }

/-- SEND passes checks 3 and 4 or is refused (R191); its acceptance latches the operands (R193). -/
def State.acceptSend (c : Nibble) (s : State) : State :=
  if !s.status.initd then s.refuseOp .noInit
  else if !s.status.identityValid then s.refuseOp .noId
  else { s with latch := ⟨s.key, s.addr, s.rc, c⟩, status := s.status.startSend, sp := .s0 }

/-- The value of a pure function performed as an instruction (R110, R140): nothing but `out` changes (LOG 10). -/
def State.deliver (s : State) (bytes : List Byte) : State := { s with out := bytes }

/-! ## The block's reset (10_state.md R39) -/

/-- R39: the block's registers take their reset values; of the transceiver nothing is known any more: its mode is
UNKNOWN, its registers and buffer unspecified, until SRES. The configuration, the observations and the inputs stay. -/
def State.blockReset (s : State) : State :=
  let d := s.nextDraw
  { s.drawNext with
    key := 0
    addr := 0
    rc := 0
    status := State.reset.status
    errinfo := 0
    sp := .idle
    latch := State.reset.latch
    bufs := ⟨State.reset.bufs.frame, State.reset.bufs.line, List.replicate (s.cfg.params.nPre + 57) 0⟩
    wt := 0
    rdv := 0
    dev := ⟨.unknown, [], d.fifo, s.dev.id⟩ }

end Sys2Proof.Machine
end

