-- ==== Sys2Proof/Machine/Bus.lean ====
section
/-!
DEFINITION. The meanings of the micro-operations that reach the bus, and of WAIT (42_transceiver_interface.md
sections 2 to 4). Each is the step SP is at: it ends with SP at the next position or with the Transport error.
-/

namespace Sys2Proof.Machine

/-- SRES, R155. -/
def execSres (s : State) : Host.Outcome State Fault Refusal :=
  .next (s.exchange .sres dropResponse)

/-- SIDLE, R156. -/
def execSidle (s : State) : Host.Outcome State Fault Refusal :=
  .next (s.exchange .sidle dropResponse)

/-- STX, R157. -/
def execStx (s : State) : Host.Outcome State Fault Refusal :=
  .next (s.exchange .stx dropResponse)

/-- SFTX, R158. -/
def execSftx (s : State) : Host.Outcome State Fault Refusal :=
  .next (s.exchange .sftx dropResponse)

/-- WREG, R152. -/
def execWreg (addr value : Byte) (s : State) : Host.Outcome State Fault Refusal :=
  .next (s.exchange (.wreg addr value) dropResponse)

/-- RREG, R153. -/
def execRreg (addr : Byte) (s : State) : Host.Outcome State Fault Refusal :=
  .next (s.exchange (.rreg addr) takeReadValue)

/-- BURSTW, R159: the payload is never split. -/
def execBurstw (payload : List Byte) (s : State) : Host.Outcome State Fault Refusal :=
  .next (s.exchange (.burstw payload) dropResponse)

/-- WAIT, R160. -/
def execWait (t : Duration) (s : State) : Host.Outcome State Fault Refusal :=
  .next (s.waitFor t)

end Sys2Proof.Machine
end

