-- ==== Sys2Proof/Machine/Commands.lean ====
section
/-!
DEFINITION. The meanings of the four protocol commands (40_frame_codec.md R116 to R119): the frame of that
command, R114, is delivered. They write no flag and raise nothing.
-/

namespace Sys2Proof.Machine

/-- STOP, code 1 (R116). -/
def execStop (key : Byte) (rc : RollingCode) (addr : RemoteAddr) (s : State) : Host.Outcome State Fault Refusal :=
  .next (s.deliver (frameOf key 0x1 rc addr).toBytes)

/-- UP, code 2 (R117). -/
def execUp (key : Byte) (rc : RollingCode) (addr : RemoteAddr) (s : State) : Host.Outcome State Fault Refusal :=
  .next (s.deliver (frameOf key 0x2 rc addr).toBytes)

/-- DOWN, code 4 (R118). -/
def execDown (key : Byte) (rc : RollingCode) (addr : RemoteAddr) (s : State) : Host.Outcome State Fault Refusal :=
  .next (s.deliver (frameOf key 0x4 rc addr).toBytes)

/-- PROG, code 8 (R119). -/
def execProg (key : Byte) (rc : RollingCode) (addr : RemoteAddr) (s : State) : Host.Outcome State Fault Refusal :=
  .next (s.deliver (frameOf key 0x8 rc addr).toBytes)

end Sys2Proof.Machine
end

