-- ==== Sys2Proof/Machine/HostOps.lean ====
section
/-!
DEFINITION. The meanings of the host operations INIT and SEND: what the write of their byte to OP does
(43_sequencer.md R190, R191). The microprogram then runs step by step (Machine/Sequencer.lean).
-/

namespace Sys2Proof.Machine

/-- INIT, OP byte `0x10` (42 R161). -/
def execInit (s : State) : Host.Outcome State Fault Refusal :=
  .next (s.writeOp State.acceptInit)

/-- SEND stop, OP byte `0x21` (R193, R116). -/
def execSendStop (s : State) : Host.Outcome State Fault Refusal :=
  .next (s.writeOp (State.acceptSend 0x1))

/-- SEND up, OP byte `0x22` (R193, R117). -/
def execSendUp (s : State) : Host.Outcome State Fault Refusal :=
  .next (s.writeOp (State.acceptSend 0x2))

/-- SEND down, OP byte `0x24` (R193, R118). -/
def execSendDown (s : State) : Host.Outcome State Fault Refusal :=
  .next (s.writeOp (State.acceptSend 0x4))

/-- SEND prog, OP byte `0x28` (R193, R119). -/
def execSendProg (s : State) : Host.Outcome State Fault Refusal :=
  .next (s.writeOp (State.acceptSend 0x8))

end Sys2Proof.Machine
end

