-- ==== Sys2Proof/Machine/Internal.lean ====
section
/-!
DEFINITION. The meanings of the pure functions performed as instructions: the Frame Codec
(40_frame_codec.md), the Line Encoder (41_line_encoder.md) and COMPOSE (43_sequencer.md R192). Each delivers its value
and changes nothing of the block; position S0 stores the values (Machine/Sequencer.lean).
-/

namespace Sys2Proof.Machine

/-- CKSUM, R111; the 4-bit value stands in the low half of one byte. -/
def execCksum (c : Nibble) (rc : RollingCode) (s : State) : Host.Outcome State Fault Refusal :=
  .next (s.deliver [(checksum c rc).setWidth 8])

/-- BUILD, R112. -/
def execBuild (key : Byte) (c : Nibble) (rc : RollingCode) (addr : RemoteAddr) (s : State) :
    Host.Outcome State Fault Refusal :=
  .next (s.deliver (buildFrame key c rc addr).toBytes)

/-- OBF, R113. -/
def execObf (p : Frame) (s : State) : Host.Outcome State Fault Refusal :=
  .next (s.deliver (obfuscate p).toBytes)

/-- DEOBF, R115. -/
def execDeobf (o : Frame) (s : State) : Host.Outcome State Fault Refusal :=
  .next (s.deliver (deobfuscate o).toBytes)

/-- ENCODE, R141. -/
def execEncode (bytes : List Byte) (s : State) : Host.Outcome State Fault Refusal :=
  .next (s.deliver (encodeLine s.cfg bytes))

/-- DECODE, R142: on its domain the bytes; outside it "a model makes it partial or returns an error" (LOG 11). -/
def execDecode (symbols : List Byte) (s : State) : Host.Outcome State Fault Refusal :=
  if inDecodeDomain s.cfg symbols then .next (s.deliver (decodeLine s.cfg symbols))
  else .fault .decodeDomain

/-- COMPOSE, R192. -/
def execCompose (f : Frame) (s : State) : Host.Outcome State Fault Refusal :=
  .next (s.deliver (composeBuffer s.cfg f))

end Sys2Proof.Machine
end

