-- ==== Sys2Proof/Machine/Dispatch.lean ====
section
/-!
DEFINITION. One arm for each operation of the opcode table, each one call of its meaning.
-/

namespace Sys2Proof.Machine

def exec (i : Instr) (s : State) : Host.Outcome State Fault Refusal :=
  match i with
  -- host operations
  | .init => Sys2Proof.Machine.execInit s
  | .sendStop => Sys2Proof.Machine.execSendStop s
  | .sendUp => Sys2Proof.Machine.execSendUp s
  | .sendDown => Sys2Proof.Machine.execSendDown s
  | .sendProg => Sys2Proof.Machine.execSendProg s
  -- micro-operations that reach the bus
  | .sres => Sys2Proof.Machine.execSres s
  | .sidle => Sys2Proof.Machine.execSidle s
  | .stx => Sys2Proof.Machine.execStx s
  | .sftx => Sys2Proof.Machine.execSftx s
  | .wreg addr value => Sys2Proof.Machine.execWreg addr value s
  | .rreg addr => Sys2Proof.Machine.execRreg addr s
  | .burstw payload => Sys2Proof.Machine.execBurstw payload s
  -- protocol commands
  | .stop key rc addr => Sys2Proof.Machine.execStop key rc addr s
  | .up key rc addr => Sys2Proof.Machine.execUp key rc addr s
  | .down key rc addr => Sys2Proof.Machine.execDown key rc addr s
  | .prog key rc addr => Sys2Proof.Machine.execProg key rc addr s
  -- internal operations
  | .cksum c rc => Sys2Proof.Machine.execCksum c rc s
  | .build key c rc addr => Sys2Proof.Machine.execBuild key c rc addr s
  | .obf p => Sys2Proof.Machine.execObf p s
  | .deobf o => Sys2Proof.Machine.execDeobf o s
  | .encode bytes => Sys2Proof.Machine.execEncode bytes s
  | .decode symbols => Sys2Proof.Machine.execDecode symbols s
  | .compose f => Sys2Proof.Machine.execCompose f s
  | .wait t => Sys2Proof.Machine.execWait t s

end Sys2Proof.Machine
end

