-- ==== Sys2Proof/Machine/HostPort.lean ====
section
/-!
DEFINITION. The host's two actions (10_state.md R36, R37; 20_memory.md R51), an OP byte decoded and performed
or refused (43_sequencer.md R190, R191), and the pseudo-operations of the host (30_encoding.md R96).
-/

namespace Sys2Proof.Machine

/-- The value of a host register (R36, R51): OP reads zero, a number above 5 reads zero. -/
def State.hostRegister (s : State) (n : Nat) : BitVec 24 :=
  match n with
  | 0 => 0
  | 1 => s.status.toByte.setWidth 24
  | 2 => s.errinfo.setWidth 24
  | 3 => s.key.setWidth 24
  | 4 => s.addr
  | 5 => s.rc.setWidth 24
  | _ => 0

/-- `HostRead(n)`: allowed at any time, no side effect (R36). -/
def State.hostRead (s : State) (n : Nat) : State := { s with hostData := s.hostRegister n }

/-- The refusal that a byte which is no operation meets (R191 check 1, R92). -/
def refusalOf : DecodeError → Kind
  | .badCommand => .badCmd
  | .badOp => .badOp
  | .emptyRequest => .badOp
  | .unknownStrobe => .badOp
  | .badRead => .badOp
  | .unknownRequest => .badOp
  | .badChecksum => .badOp

/-- A write of a byte to OP (R25): the operation it selects, or the refusal of R191 check 1. -/
def State.writeOpByte (s : State) (b : Byte) : Host.Outcome State Fault Refusal :=
  match decodeOp b with
  | .ok i => exec i s
  | .error e => .next (s.writeOp fun t => t.refuseOp (refusalOf e))

/-- A write to KEY, with its valid bit (R21, R37). -/
def State.writeKey (s : State) (v : Byte) : State :=
  if s.status.busy then s else { s with key := v, status := { s.status with kv := true } }

/-- A write to ADDR, with its valid bit (R22, R37). -/
def State.writeAddr (s : State) (v : RemoteAddr) : State :=
  if s.status.busy then s else { s with addr := v, status := { s.status with av := true } }

/-- A write to RC, with its valid bit (R23, R37, D31). -/
def State.writeRc (s : State) (v : RollingCode) : State :=
  if s.status.busy then s else { s with rc := v, status := { s.status with rv := true } }

/-- `HostWrite(n, v)`: STATUS and ERRINFO take no write (R26, R27), nor does a number above 5 (R36). -/
def State.hostWrite (s : State) (n : Nat) (v : BitVec 24) : Host.Outcome State Fault Refusal :=
  match n with
  | 0 => s.writeOpByte (v.setWidth 8)
  | 3 => .next (s.writeKey (v.setWidth 8))
  | 4 => .next (s.writeAddr v)
  | 5 => .next (s.writeRc (v.setWidth 16))
  | _ => .next s

/-- A host action. -/
def State.hostActs (s : State) (a : HostAction) : Host.Outcome State Fault Refusal :=
  match a with
  | .read n => .next (s.hostRead n)
  | .write n v => s.hostWrite n v

/-- LDKEY v (R96). -/
def ldKey (v : Byte) : HostAction := .write 3 (v.setWidth 24)

/-- LDADDR v (R96). -/
def ldAddr (v : RemoteAddr) : HostAction := .write 4 v

/-- LDRC v (R96). -/
def ldRc (v : RollingCode) : HostAction := .write 5 (v.setWidth 24)

/-- LOAD key, addr, rc (R96): the three writes in that order. -/
def loadIdentity (key : Byte) (addr : RemoteAddr) (rc : RollingCode) : List HostAction :=
  [ldKey key, ldAddr addr, ldRc rc]

end Sys2Proof.Machine
end

