-- ==== Sys2Proof/Machine/Sequencer.lean ====
section
/-!
DEFINITION. The sequencer (43_sequencer.md R193, R198; 42_transceiver_interface.md R161): which operation the
microprogram has at a position, position S0, and one micro-step. Also the two microprograms as lists and the pseudo-operation
TXFRAME (R96, R194), which say the same order as a whole.
-/

namespace Sys2Proof.Machine

/-- The operation at a position that performs exactly one (R161, R193): every position but IDLE, S0 and S3, which perform
none, four, and the commit. An entry that the table lacks has none. -/
def State.microOp (s : State) : Option Instr :=
  match s.sp with
  | .idle => none
  | .i0 => some .sres
  | .i1 => some (.wait .settle)
  | .i2 j =>
    match s.cfg.params.cfgTable[j]? with
    | some e => some (.wreg e.1 e.2)
    | none => none
  | .i3 => some (.rreg s.cfg.params.idReg)
  | .s0 => none
  | .s1 => some .sidle
  | .s2 => some .sftx
  | .fa _ => some (.burstw s.bufs.txbuf)
  | .fb _ => some .stx
  | .fc _ => some (.wait .tx)
  | .fd _ => some (.wait .gap)
  | .s3 => none

/-- What follows a next state; a stop stays a stop. -/
def andThen (o : Host.Outcome State Fault Refusal) (k : State → Host.Outcome State Fault Refusal) :
    Host.Outcome State Fault Refusal :=
  match o with
  | .next s => k s
  | .fault r => .fault r
  | .refused r => .refused r

/-- FRAME takes the value delivered. -/
def State.storeFrame (s : State) : State := { s with bufs := { s.bufs with frame := Frame.ofBytes s.out } }

/-- LINE takes the value delivered. -/
def State.storeLine (s : State) : State := { s with bufs := { s.bufs with line := s.out } }

/-- TXBUF takes the value delivered. -/
def State.storeTxbuf (s : State) : State := { s with bufs := { s.bufs with txbuf := s.out } }

/-- Position S0 (R193): BUILD, OBF, ENCODE and COMPOSE in this order, their values into FRAME, LINE and TXBUF; one
micro-step. COMPOSE of FRAME is `PREAMBLE ++ [SYNC] ++ LINE`. -/
def State.buildAndCompose (s : State) : Host.Outcome State Fault Refusal :=
  andThen (exec (.build s.latch.key s.latch.cmd s.latch.rc s.latch.addr) s) fun s1 =>
  andThen (exec (.obf (Frame.ofBytes s1.out)) s1) fun s2 =>
  andThen (exec (.encode s2.storeFrame.bufs.frame.toBytes) s2.storeFrame) fun s3 =>
  andThen (exec (.compose s3.storeLine.bufs.frame) s3.storeLine) fun s4 =>
  .next s4.storeTxbuf.proceed

/-- One micro-step of the sequencer (R9, R198). At IDLE it waits for a command; at a position R28 does not list it
stops (LOG 15). -/
def State.microStep (s : State) : Host.Outcome State Fault Refusal :=
  match s.sp with
  | .idle => .next s
  | .s0 => s.buildAndCompose
  | .s3 => .next s.commit
  | _ =>
    match s.microOp with
    | some i => exec i s
    | none => .fault .notAPosition

/-- TXFRAME k (R96, R194): load, strobe, wait, and the gap for k at most 7. -/
def txFrame (txbuf : List Byte) (k : Fin 9) : List Instr :=
  [.burstw txbuf, .stx, .wait .tx] ++ (if k.val ≤ 7 then [.wait .gap] else [])

/-- The operations of INIT in order (R161). -/
def initProgram (cfg : Config) : List Instr :=
  [.sres, .wait .settle] ++ cfg.params.cfgTable.map (fun e => .wreg e.1 e.2) ++ [.rreg cfg.params.idReg]

/-- The operations of SEND in order after S0 and up to the commit (R193). -/
def sendProgram (txbuf : List Byte) : List Instr :=
  [.sidle, .sftx] ++ (List.finRange 9).flatMap (txFrame txbuf)

/-- The positions of INIT in order (R198). -/
def initPositions (cfg : Config) : List Pos :=
  [.i0, .i1] ++ (List.range cfg.params.nCfg).map .i2 ++ [.i3]

/-- The positions of one transmission in order (R194). -/
def txPositions (k : Fin 9) : List Pos :=
  [.fa k, .fb k, .fc k] ++ (if h : k.val < 8 then [.fd ⟨k.val, h⟩] else [])

/-- The positions of SEND in order (R198). -/
def sendPositions : List Pos :=
  [.s0, .s1, .s2] ++ (List.finRange 9).flatMap txPositions ++ [.s3]

end Sys2Proof.Machine
end

