-- ==== Sys2Proof/Machine/Turns.lean ====
section
/-!
DEFINITION. What one turn of each agent does (00_scope.md R9), and where an operation is placed so that the
next step performs it (LOG 17).
-/

namespace Sys2Proof.Machine

/-- One turn: the host, the transceiver, the sequencer, or the block's reset. -/
def State.take (s : State) (t : Turn) : Host.Outcome State Fault Refusal :=
  match t with
  | .host a => s.hostActs a
  | .device => .next s.deviceMoves
  | .sequencer => s.microStep
  | .reset => .next s.blockReset

/-- One step: the first turn of the list, or the sequencer's when none is listed (R9, LOG 5). -/
def State.turn (s : State) : Host.Outcome State Fault Refusal :=
  match s.turns with
  | [] => s.microStep
  | t :: rest => { s with turns := rest }.take t

/-- The sequencer stands at a position with an operation running and moves next. -/
def State.placeAt (s : State) (p : Pos) : State :=
  { s with sp := p, status := { s.status with busy := true }, turns := [], wt := 0 }

/-- SEND stands at S0 with these operands latched (R193). -/
def State.placeFrame (s : State) (key : Byte) (c : Nibble) (rc : RollingCode) (addr : RemoteAddr) : State :=
  { s.placeAt .s0 with latch := ⟨key, addr, rc, c⟩ }

/-- The configuration with other parameters, where those meet R6. -/
def State.reconfigure (s : State) (p : Params) : State :=
  if h : p.problem = none then { s with cfg := ⟨p, h⟩ } else s

/-- The state in which the next step performs an operation that has an encoding: a host operation is the host's next
write; a micro-operation stands where its microprogram performs it, with its operands where that position reads
them; a command stands at S0. The others have no encoding and no place of their own. -/
def State.place (s : State) (i : Instr) : State :=
  match i with
  | .init => { s with turns := .host (.write 0 0x10) :: s.turns }
  | .sendStop => { s with turns := .host (.write 0 0x21) :: s.turns }
  | .sendUp => { s with turns := .host (.write 0 0x22) :: s.turns }
  | .sendDown => { s with turns := .host (.write 0 0x24) :: s.turns }
  | .sendProg => { s with turns := .host (.write 0 0x28) :: s.turns }
  | .sres => s.placeAt .i0
  | .sidle => s.placeAt .s1
  | .stx => s.placeAt (.fb 0)
  | .sftx => s.placeAt .s2
  | .wreg addr value => (s.reconfigure { s.cfg.params with cfgTable := [(addr, value)] }).placeAt (.i2 0)
  | .rreg addr => (s.reconfigure { s.cfg.params with idReg := addr }).placeAt .i3
  | .burstw payload => { s.placeAt (.fa 0) with bufs := { s.bufs with txbuf := payload } }
  | .stop key rc addr => s.placeFrame key 0x1 rc addr
  | .up key rc addr => s.placeFrame key 0x2 rc addr
  | .down key rc addr => s.placeFrame key 0x4 rc addr
  | .prog key rc addr => s.placeFrame key 0x8 rc addr
  | .cksum _ _ => s
  | .build key c rc addr => s.placeFrame key c rc addr
  | .obf _ => s
  | .deobf _ => s
  | .encode _ => s
  | .decode _ => s
  | .compose _ => s
  | .wait .settle => s.placeAt .i1
  | .wait .tx => s.placeAt (.fc 0)
  | .wait .gap => s.placeAt (.fd 0)

end Sys2Proof.Machine
end

