-- ==== Sys2Proof/Machine/Step.lean ====
section
/-!
DEFINITION. One step of the machine, and a table word placed where the next step performs it.
-/

namespace Sys2Proof.Machine

/-- One step: the turn of the agent that moves next. -/
def step (s : State) : Host.Outcome State Fault Refusal := s.turn

/-- The state whose next step performs the operation the table word encodes; unchanged where the word is none (LOG 17). -/
def State.withFetchWord (s : State) (nbits w : Nat) : State :=
  match decodeTableWord nbits w with
  | some i => s.place i
  | none => s

end Sys2Proof.Machine
end

