-- ==== Sys2Proof/Safety.lean ====
section
/-!
DEFINITION. The terms claims use: what holds of every state a run reaches (`Inv`), what the trace shows, and
which draws let a step succeed.
-/

namespace Sys2Proof.Machine

/-- The positions of INIT (R28). -/
def Pos.inInit : Pos → Bool
  | .i0 => true
  | .i1 => true
  | .i2 _ => true
  | .i3 => true
  | .idle => false
  | .s0 => false
  | .s1 => false
  | .s2 => false
  | .fa _ => false
  | .fb _ => false
  | .fc _ => false
  | .fd _ => false
  | .s3 => false

/-- The positions of SEND (R28). -/
def Pos.inSend : Pos → Bool
  | .s0 => true
  | .s1 => true
  | .s2 => true
  | .fa _ => true
  | .fb _ => true
  | .fc _ => true
  | .fd _ => true
  | .s3 => true
  | .idle => false
  | .i0 => false
  | .i1 => false
  | .i2 _ => false
  | .i3 => false

/-- The positions at which a wait is performed (R161, R193). -/
def Pos.isWait : Pos → Bool
  | .i1 => true
  | .fc _ => true
  | .fd _ => true
  | .idle => false
  | .i0 => false
  | .i2 _ => false
  | .i3 => false
  | .s0 => false
  | .s1 => false
  | .s2 => false
  | .fa _ => false
  | .fb _ => false
  | .s3 => false

/-- The four command codes a SEND may have (R91). -/
def legalCode (c : Nibble) : Bool := c == 0x1 || c == 0x2 || c == 0x4 || c == 0x8

/-- The frame of the latched operands (R193, S0). -/
def State.latchedFrame (s : State) : Frame := frameOf s.latch.key s.latch.cmd s.latch.rc s.latch.addr

/-- What holds of every state a run from reset reaches. -/
structure Inv (s : State) : Prop where
  /-- R67: BUSY is 1 from the acceptance of an operation to its last micro-step. -/
  busyAtPosition : s.status.busy = true ↔ s.sp ≠ .idle
  /-- R26: BUSY, DONE and ERR are never 1 two at a time. -/
  busyNotDone : ¬(s.status.busy = true ∧ s.status.done = true)
  busyNotErr : ¬(s.status.busy = true ∧ s.status.err = true)
  doneNotErr : ¬(s.status.done = true ∧ s.status.err = true)
  /-- R221, R222: an error record is one the codes allow; without an error it is empty. -/
  errorRecord :
    if s.status.err then
      ∃ kind phase index, s.errinfo = errorWord kind phase index ∧ kind ≠ .none ∧
        (kind ≠ .transport → phase = .none ∧ index = 0)
    else s.errinfo = 0
  /-- R28: SP ranges over the list. -/
  tableIndex : ∀ j, s.sp = .i2 j → j < s.cfg.params.nCfg
  /-- R31: the timer runs only during a wait. -/
  timer : s.wt ≠ 0 → s.sp.isWait = true
  /-- The transceiver's registers are in canonical form. -/
  registers : s.dev.regs.wf = true
  /-- R30: the widths of LINE and TXBUF. -/
  lineLength : s.bufs.line.length = 56
  txbufLength : s.bufs.txbuf.length = s.cfg.params.nPre + 57
  /-- R191: INIT runs only before an INIT has ended with success. -/
  initRuns : s.sp.inInit = true → s.status.initd = false
  /-- R191: SEND runs only after one, with an identity loaded. -/
  sendRuns : s.sp.inSend = true → s.status.initd = true ∧ s.status.identityValid = true
  /-- R68: the latched operands of a running SEND are the registers' values. -/
  latched : s.sp.inSend = true →
    s.latch.key = s.key ∧ s.latch.addr = s.addr ∧ s.latch.rc = s.rc ∧ legalCode s.latch.cmd = true
  /-- R193: after S0 the buffers hold the frame of the latched operands, its line code and the composite buffer. -/
  composed : s.sp.inSend = true → s.sp ≠ .s0 →
    s.bufs = ⟨s.latchedFrame, encodeLine s.cfg s.latchedFrame.toBytes, composeBuffer s.cfg s.latchedFrame⟩
  /-- R26: success and the warning come only with INITD. -/
  doneAfterInit : s.status.done = true → s.status.initd = true
  warnAfterInit : s.status.warn = true → s.status.initd = true

/-- The instruction of a bus micro-operation (R80). -/
def busInstr : BusOp → Instr
  | .sres => .sres
  | .sidle => .sidle
  | .stx => .stx
  | .sftx => .sftx
  | .wreg addr value => .wreg addr value
  | .rreg addr => .rreg addr
  | .burstw payload => .burstw payload

/-- The four SENDs with their command codes (R81). -/
def sends : List (Instr × Nibble) := [(.sendStop, 0x1), (.sendUp, 0x2), (.sendDown, 0x4), (.sendProg, 0x8)]

/-- The exchange fails: the transport says so, or hands back another number of bytes (R150, D28). -/
def failing (req : List Byte) (d : Draw) : Bool :=
  match d.reply with
  | .fail => true
  | .bytes resp => resp.length != req.length
  | .silent => false

/-- The requests of the exchanges in a trace, in order (R10). -/
def requestsOf (trace : List Event) : List (List Byte) :=
  trace.filterMap fun e =>
    match e with
    | .exchange req _ => some req
    | .wait _ => none

/-- The transport hands back as many bytes as the request has (R150). -/
def answers (req : List Byte) (d : Draw) : Bool :=
  match d.reply with
  | .bytes resp => resp.length == req.length
  | .silent => false
  | .fail => false

/-- The draw lets the operation succeed: an exchange is answered with a response of the request's length (R150, D28);
a wait lasts at least its duration and the device moves meanwhile (R160, U12). -/
def goodDraw (cfg : Config) (i : Instr) (d : Draw) : Bool :=
  match i with
  | .sres => answers (busRequest cfg .sres) d
  | .sidle => answers (busRequest cfg .sidle) d
  | .stx => answers (busRequest cfg .stx) d
  | .sftx => answers (busRequest cfg .sftx) d
  | .wreg addr value => answers (busRequest cfg (.wreg addr value)) d
  | .rreg addr => answers (busRequest cfg (.rreg addr)) d
  | .burstw payload => answers (busRequest cfg (.burstw payload)) d
  | .wait t => decide (t.value cfg ≤ d.passes) && d.settled
  | .init => true
  | .sendStop => true
  | .sendUp => true
  | .sendDown => true
  | .sendProg => true
  | .stop _ _ _ => true
  | .up _ _ _ => true
  | .down _ _ _ => true
  | .prog _ _ _ => true
  | .cksum _ _ => true
  | .build _ _ _ _ => true
  | .obf _ => true
  | .deobf _ => true
  | .encode _ => true
  | .decode _ => true
  | .compose _ => true

/-- One good draw for each operation of a program, in order. -/
def goodDraws (cfg : Config) : List Instr → List Draw → Bool
  | [], [] => true
  | i :: is, d :: ds => goodDraw cfg i d && goodDraws cfg is ds
  | [], _ :: _ => false
  | _ :: _, [] => false

/-! ### How far a microprogram still has to go (R198, R201) -/

/-- How many steps a wait that begins can take: each lets at least a millisecond pass, and it takes one at least (LOG 6). -/
def waitSteps (cfg : Config) (t : Duration) : Nat := max 1 (t.value cfg)

/-- How many steps a transmission takes from its burst write to its gap (R194), while the transport is not silent. -/
def frameSteps (cfg : Config) : Nat := 2 + waitSteps cfg .tx + waitSteps cfg .gap

/-- How many steps a microprogram can take from the beginning of a position to IDLE, while the transport is not silent. -/
def stepsFrom (cfg : Config) : Pos → Nat
  | .idle => 0
  | .i0 => waitSteps cfg .settle + cfg.params.nCfg + 2
  | .i1 => waitSteps cfg .settle + cfg.params.nCfg + 1
  | .i2 j => cfg.params.nCfg - j + 1
  | .i3 => 1
  | .s0 => 8 * frameSteps cfg + waitSteps cfg .tx + 6
  | .s1 => 8 * frameSteps cfg + waitSteps cfg .tx + 5
  | .s2 => 8 * frameSteps cfg + waitSteps cfg .tx + 4
  | .fa k => (8 - k.val) * frameSteps cfg + waitSteps cfg .tx + 3
  | .fb k => (8 - k.val) * frameSteps cfg + waitSteps cfg .tx + 2
  | .fc k => (8 - k.val) * frameSteps cfg + waitSteps cfg .tx + 1
  | .fd k => (7 - k.val) * frameSteps cfg + waitSteps cfg .gap + waitSteps cfg .tx + 3
  | .s3 => 1

/-- How many steps the running operation can still take: of a wait that has begun, no more than milliseconds are left. -/
def stepsLeft (s : State) : Nat :=
  if s.wt = 0 then stepsFrom s.cfg s.sp else s.wt + stepsFrom s.cfg (s.sp.next s.cfg)

/-- How many exchanges a microprogram can make from a position on (R198, R201). -/
def exchangesFrom (cfg : Config) : Pos → Nat
  | .idle => 0
  | .i0 => 2 + cfg.params.nCfg
  | .i1 => 1 + cfg.params.nCfg
  | .i2 j => cfg.params.nCfg - j + 1
  | .i3 => 1
  | .s0 => 20
  | .s1 => 20
  | .s2 => 19
  | .fa k => 2 * (9 - k.val)
  | .fb k => 2 * (9 - k.val) - 1
  | .fc k => 2 * (8 - k.val)
  | .fd k => 2 * (8 - k.val)
  | .s3 => 0

/-- An exchange is made at the position. -/
def Pos.isExchange : Pos → Bool
  | .i0 => true
  | .i2 _ => true
  | .i3 => true
  | .s1 => true
  | .s2 => true
  | .fa _ => true
  | .fb _ => true
  | .idle => false
  | .i1 => false
  | .s0 => false
  | .fc _ => false
  | .fd _ => false
  | .s3 => false

/-- The transport is not silent. -/
def speaks (d : Draw) : Bool := d.reply != .silent

/-- The codes of the bus tell its words apart, as far as one operation goes: what R277 leaves to the parameter-setter. -/
def distinguishable (cfg : Config) (i : Instr) : Bool :=
  match i with
  | .sres => cfg.params.strobeSres != cfg.params.txbufBurst
  | .sidle => cfg.params.strobeSidle != cfg.params.txbufBurst
  | .stx => cfg.params.strobeStx != cfg.params.txbufBurst
  | .sftx => cfg.params.strobeSftx != cfg.params.txbufBurst
  | .wreg addr _ => addr != cfg.params.txbufBurst
  | .rreg addr =>
    cfg.params.readFlag != 0 && addr &&& cfg.params.readFlag == 0 && readHeader cfg addr != cfg.params.txbufBurst
  | .init => true
  | .sendStop => true
  | .sendUp => true
  | .sendDown => true
  | .sendProg => true
  | .burstw _ => true
  | .stop _ _ _ => true
  | .up _ _ _ => true
  | .down _ _ _ => true
  | .prog _ _ _ => true
  | .cksum _ _ => true
  | .build _ _ _ _ => true
  | .obf _ => true
  | .deobf _ => true
  | .encode _ => true
  | .decode _ => true
  | .compose _ => true
  | .wait _ => true

end Sys2Proof.Machine
end

