-- ==== Sys2Proof/Certificates/Slice0/Obligations.lean ====
section
/-!
DEFINITION. The statements about the machine, for the provers. Each docstring names the rule of spec/ that the
statement formalises, and the log entry where it rests on one.
-/

open Sys2Proof Sys2Proof.Machine

/-! ## Words -/

/-- R81 to R86: decoding the word of a well-formed operation gives it back, where the parameters tell the headers apart
(what R277 leaves to whoever sets them). The three spaces of words and the order in which a request is read are the model's
(LOG 14). -/
def Obligations.DecodeOfEncode : Prop :=
  ∀ (cfg : Config) (i : Instr) (e : Encoding), i.wellFormed cfg = true → distinguishable cfg i = true →
    encode cfg i = some e → decode cfg e = .ok i

/-- R81 to R86: a word that decodes is the word of what it decodes to, so each word has one meaning and no two
operations share a word of one space (LOG 14). -/
def Obligations.EncodeOfDecode : Prop :=
  ∀ (cfg : Config) (e : Encoding) (i : Instr), decode cfg e = .ok i → encode cfg i = some e ∧ i.wellFormed cfg = true

/-- R81, R86 and section 2.7 of 95_test_vectors.md: words written out from the spec's tables, under TestCfg. -/
def Obligations.SpecWordsDecode : Prop :=
  decode Config.test (.hostByte 0x10) = .ok .init ∧
  decode Config.test (.hostByte 0x22) = .ok .sendUp ∧
  decode Config.test (.request [0x30]) = .ok .sres ∧
  decode Config.test (.request [0x02, 0x0D]) = .ok (.wreg 0x02 0x0D) ∧
  decode Config.test (.request [0xB1, 0x00]) = .ok (.rreg 0x31) ∧
  decode Config.test (.request [0x7F, 0xAA]) = .ok (.burstw [0xAA]) ∧
  decode Config.test (.frame ⟨0x5C, 0x42, 0x12, 0x34, 0xAB, 0xCD, 0xEF⟩) = .ok (.down 0x5C 0x1234 0xABCDEF)

/-- R92: of the 256 bytes five are legal; a SEND form with another code is refused with BADCMD, every other byte with
BADOP. The write is made while BUSY = 0. -/
def Obligations.OpBytesLegalOrRefused : Prop :=
  ∀ (s : State) (b : Byte), s.status.busy = false →
    ((b = 0x10 ∨ b = 0x21 ∨ b = 0x22 ∨ b = 0x24 ∨ b = 0x28) →
      ∃ i, decodeOp b = .ok i ∧ encode s.cfg i = some (.hostByte b) ∧ s.writeOpByte b = exec i s) ∧
    (b.extractLsb' 4 4 = 0x2#4 → b ≠ 0x21 → b ≠ 0x22 → b ≠ 0x24 → b ≠ 0x28 →
      s.writeOpByte b = .next { s with
        status := { s.status with busy := false, done := false, err := true }, errinfo := 0x3000, sp := .idle }) ∧
    (b.extractLsb' 4 4 ≠ 0x2#4 → b ≠ 0x10 →
      s.writeOpByte b = .next { s with
        status := { s.status with busy := false, done := false, err := true }, errinfo := 0x2000, sp := .idle })

/-! ## The Frame Codec -/

/-- R111, R121 (a): CKSUM delivers the exclusive or of the code and the low nibbles of the two bytes of RC, in the low half
of a byte; that the value appears in `out` is the model's (LOG 10). -/
def Obligations.CksumDelivers : Prop :=
  ∀ (s : State) (c : Nibble) (rc : RollingCode),
    exec (.cksum c rc) s =
      .next { s with out := [BitVec.ofNat 8 (c.toNat ^^^ rc.toNat % 16 ^^^ rc.toNat / 256 % 16)] }

/-- R112, R55: BUILD delivers key, command and checksum nibbles, RC and ADDR most significant byte first; `out` is the
model's (LOG 10). -/
def Obligations.BuildDelivers : Prop :=
  ∀ (s : State) (key : Byte) (c : Nibble) (rc : RollingCode) (addr : RemoteAddr),
    exec (.build key c rc addr) s = .next { s with out :=
      [key, BitVec.ofNat 8 (16 * c.toNat + (c.toNat ^^^ rc.toNat % 16 ^^^ rc.toNat / 256 % 16)),
        BitVec.ofNat 8 (rc.toNat / 256), BitVec.ofNat 8 rc.toNat,
        BitVec.ofNat 8 (addr.toNat / 65536), BitVec.ofNat 8 (addr.toNat / 256), BitVec.ofNat 8 addr.toNat] }

/-- R113, R121 (b): OBF delivers at each index the exclusive or of the bytes up to it; `out` is the model's (LOG 10). -/
def Obligations.ObfDelivers : Prop :=
  ∀ (s : State) (p : Frame), exec (.obf p) s = .next { s with out :=
    [p.b0, p.b0 ^^^ p.b1, p.b0 ^^^ p.b1 ^^^ p.b2, p.b0 ^^^ p.b1 ^^^ p.b2 ^^^ p.b3,
      p.b0 ^^^ p.b1 ^^^ p.b2 ^^^ p.b3 ^^^ p.b4, p.b0 ^^^ p.b1 ^^^ p.b2 ^^^ p.b3 ^^^ p.b4 ^^^ p.b5,
      p.b0 ^^^ p.b1 ^^^ p.b2 ^^^ p.b3 ^^^ p.b4 ^^^ p.b5 ^^^ p.b6] }

/-- R115: DEOBF delivers at each index from 1 the exclusive or of two neighbouring bytes, and the two functions undo each
other both ways; `out` is the model's (LOG 10). -/
def Obligations.DeobfUndoesObf : Prop :=
  (∀ (s : State) (o : Frame), exec (.deobf o) s = .next { s with out :=
    [o.b0, o.b0 ^^^ o.b1, o.b1 ^^^ o.b2, o.b2 ^^^ o.b3, o.b3 ^^^ o.b4, o.b4 ^^^ o.b5, o.b5 ^^^ o.b6] }) ∧
  (∀ p : Frame, deobfuscate (obfuscate p) = p) ∧ (∀ o : Frame, obfuscate (deobfuscate o) = o)

/-- R116 to R119, R114: each protocol command delivers the obfuscated frame whose plain byte 1 is its code in place with the
checksum below it. What performing a command does is the model's reading (LOG 13). -/
def Obligations.CommandsDeliverTheirFrames : Prop :=
  ∀ (s : State) (key : Byte) (rc : RollingCode) (addr : RemoteAddr),
    let plain (top : Byte) (c : Nibble) : Frame :=
      ⟨key, top ||| (checksum c rc).setWidth 8, rcHigh rc, rcLow rc, addrHigh addr, addrMid addr, addrLow addr⟩
    exec (.stop key rc addr) s = .next { s with out := (obfuscate (plain 0x10 0x1)).toBytes } ∧
    exec (.up key rc addr) s = .next { s with out := (obfuscate (plain 0x20 0x2)).toBytes } ∧
    exec (.down key rc addr) s = .next { s with out := (obfuscate (plain 0x40 0x4)).toBytes } ∧
    exec (.prog key rc addr) s = .next { s with out := (obfuscate (plain 0x80 0x8)).toBytes }

/-- R121, which the spec marks "derived: from rules R111 and R113": the four closed forms: the checksum; the running exclusive or; checksums that differ by the codes; a change of one
plain byte, which changes the obfuscated bytes from it on and none before. -/
def Obligations.CodecClosedForms : Prop :=
  (∀ (c : Nibble) (rc : RollingCode), checksum c rc = c ^^^ (rcLow rc ^^^ rcHigh rc).extractLsb' 0 4) ∧
  (∀ (p : Frame) (n : Nat), n < 7 →
    (obfuscate p).toBytes[n]? = some ((p.toBytes.take (n + 1)).foldl (fun x y => x ^^^ y) 0)) ∧
  (∀ (c c' : Nibble) (rc : RollingCode), checksum c rc ^^^ checksum c' rc = c ^^^ c') ∧
  (∀ (p q : Frame) (d : Byte) (n : Nat), n < 7 → q.toBytes = p.toBytes.modify n (fun x => x ^^^ d) →
    ∀ m, m < 7 → (obfuscate q).toBytes[m]? =
      (obfuscate p).toBytes[m]?.map (fun x => if n ≤ m then x ^^^ d else x))

/-- R123 (d), which the spec marks "derived: from rules R112, R113, R115": the next frame for the same remote and command
differs from the last one. -/
def Obligations.SuccessiveFramesDiffer : Prop :=
  ∀ (key : Byte) (c : Nibble) (rc : RollingCode) (addr : RemoteAddr),
    frameOf key c rc addr ≠ frameOf key c (rc + 1) addr

/-! ## The Line Encoder and the composite buffer -/

/-- R141: ENCODE delivers the symbol of bit b of byte j at place 8 j + (7 - b), and nothing else; `out` is the
model's (LOG 10). -/
def Obligations.EncodeDelivers : Prop :=
  ∀ (s : State) (bytes : List Byte),
    exec (.encode bytes) s = .next { s with out := encodeLine s.cfg bytes } ∧
    ∀ (j b : Nat) (hj : j < bytes.length), b < 8 →
      (encodeLine s.cfg bytes)[8 * j + (7 - b)]? =
        some (if bytes[j].getLsbD b then s.cfg.params.symOne else s.cfg.params.symZero)

/-- R143: the output is eight times as long as the input, for a frame 56 bytes, which stand for 112 signal levels (two for
each symbol byte). -/
def Obligations.LineCodeIsEightTimesAsLong : Prop :=
  ∀ (cfg : Config) (bytes : List Byte), (encodeLine cfg bytes).length = 8 * bytes.length ∧
    ∀ f : Frame, (encodeLine cfg f.toBytes).length = 56 ∧ 2 * (encodeLine cfg f.toBytes).length = 112

/-- R144: DECODE undoes ENCODE on every byte list, ENCODE undoes DECODE on its domain, and (marked "derived: from rule R141"
by the spec) ENCODE distributes over concatenation. -/
def Obligations.LineCodeRoundTrips : Prop :=
  ∀ cfg : Config,
    (∀ bytes : List Byte, decodeLine cfg (encodeLine cfg bytes) = bytes) ∧
    (∀ symbols : List Byte, inDecodeDomain cfg symbols = true → encodeLine cfg (decodeLine cfg symbols) = symbols) ∧
    (∀ a b : List Byte, encodeLine cfg (a ++ b) = encodeLine cfg a ++ encodeLine cfg b)

/-- R142: DECODE delivers the bytes whose line code the list is; outside its domain it stops (the model's choice among
"partial" and "an error", LOG 11). -/
def Obligations.DecodeDeliversOrStops : Prop :=
  ∀ (s : State) (symbols : List Byte),
    (symbols.length % 8 = 0 → (∀ b ∈ symbols, b = s.cfg.params.symOne ∨ b = s.cfg.params.symZero) →
      ∃ bytes, encodeLine s.cfg bytes = symbols ∧ exec (.decode symbols) s = .next { s with out := bytes }) ∧
    ((symbols.length % 8 ≠ 0 ∨ ∃ b ∈ symbols, b ≠ s.cfg.params.symOne ∧ b ≠ s.cfg.params.symZero) →
      exec (.decode symbols) s = .fault .decodeDomain)

/-- R192, R89: COMPOSE delivers the preamble and the sync marker as they are and then the line code of the frame,
N_PRE + 57 bytes; `out` is the model's (LOG 10). -/
def Obligations.ComposeDelivers : Prop :=
  ∀ (s : State) (f : Frame),
    exec (.compose f) s = .next { s with
      out := s.cfg.params.preamble ++ s.cfg.params.sync :: encodeLine s.cfg f.toBytes } ∧
    (composeBuffer s.cfg f).length = s.cfg.params.nPre + 57

/-! ## Host operations and host access -/

/-- R161, R190: with BUSY = 0 and INITD = 0, INIT is accepted. -/
def Obligations.InitStarts : Prop :=
  ∀ s : State, s.status.busy = false → s.status.initd = false →
    exec .init s = .next { s with
      status := { s.status with busy := true, done := false, err := false, warn := false }, errinfo := 0, sp := .i0 }

/-- R191: with BUSY = 0 and INITD = 1, INIT is refused with REINIT. -/
def Obligations.InitRefusedOnceInitialised : Prop :=
  ∀ s : State, s.status.busy = false → s.status.initd = true →
    exec .init s = .next { s with
      status := { s.status with busy := false, done := false, err := true }, errinfo := 0x4000, sp := .idle }

/-- R193, R190, R68: with BUSY = 0, INITD = 1 and the three valid bits, a SEND latches its operands once and starts. -/
def Obligations.SendStarts : Prop :=
  ∀ (s : State) (i : Instr) (c : Nibble), (i, c) ∈ sends → s.status.busy = false → s.status.initd = true →
    s.status.kv = true → s.status.av = true → s.status.rv = true →
    exec i s = .next { s with
      latch := ⟨s.key, s.addr, s.rc, c⟩
      status := { s.status with busy := true, done := false, err := false }
      errinfo := 0
      sp := .s0 }

/-- R191, R228: with BUSY = 0 a SEND before INIT is refused with NOINIT, and only after it, without an identity, with NOID. -/
def Obligations.SendRefused : Prop :=
  ∀ (s : State) (i : Instr) (c : Nibble), (i, c) ∈ sends → s.status.busy = false →
    (s.status.initd = false → exec i s = .next { s with
      status := { s.status with busy := false, done := false, err := true }, errinfo := 0x5000, sp := .idle }) ∧
    (s.status.initd = true → (s.status.kv = false ∨ s.status.av = false ∨ s.status.rv = false) →
      exec i s = .next { s with
        status := { s.status with busy := false, done := false, err := true }, errinfo := 0x6000, sp := .idle })

/-- R37: a host write under BUSY has no effect at all; with BUSY = 0 a write to KEY, ADDR or RC, of a value of the register's
width, stores the value and sets the valid bit. -/
def Obligations.HostWrites : Prop :=
  ∀ s : State,
    (s.status.busy = true → ∀ n v, s.hostWrite n v = .next s) ∧
    (s.status.busy = false →
      (∀ key : Byte, s.hostWrite 3 (key.setWidth 24) =
        .next { s with key := key, status := { s.status with kv := true } }) ∧
      (∀ addr : RemoteAddr, s.hostWrite 4 addr =
        .next { s with addr := addr, status := { s.status with av := true } }) ∧
      (∀ rc : RollingCode, s.hostWrite 5 (rc.setWidth 24) =
        .next { s with rc := rc, status := { s.status with rv := true } }))

/-- R36 with R25 to R27: a host read gives the register's current value, whatever BUSY is, and changes nothing else; OP and
numbers above 5 read zero; a write to STATUS, ERRINFO or a number above 5 has no effect. The field `hostData`, in which the
value handed to the host appears, and turns and actions as data are the model's choice (LOG 5). -/
def Obligations.HostReads : Prop :=
  (∀ (s : State) (n : Nat), ∃ v, s.hostActs (.read n) = .next { s with hostData := v } ∧
    (n = 0 → v = 0) ∧
    (n = 1 → v = BitVec.ofNat 24 (s.status.busy.toNat + 2 * s.status.done.toNat + 4 * s.status.err.toNat +
      8 * s.status.warn.toNat + 16 * s.status.initd.toNat + 32 * s.status.kv.toNat + 64 * s.status.av.toNat +
      128 * s.status.rv.toNat)) ∧
    (n = 2 → v = BitVec.ofNat 24 s.errinfo.toNat) ∧ (n = 3 → v = BitVec.ofNat 24 s.key.toNat) ∧
    (n = 4 → v = s.addr) ∧ (n = 5 → v = BitVec.ofNat 24 s.rc.toNat) ∧ (5 < n → v = 0)) ∧
  (∀ (s : State) (n : Nat) (v : BitVec 24), n = 1 ∨ n = 2 ∨ 5 < n → s.hostActs (.write n v) = .next s)

/-- R220, R225, R230: a write to OP makes no exchange and nothing on the air, whatever byte and whatever state: it touches
neither the trace, the device, the identity, nor INITD, WARN (but INIT's acceptance) and the valid bits. -/
def Obligations.OpWriteMakesNoExchange : Prop :=
  ∀ (s t : State) (b : Byte), s.writeOpByte b = .next t →
    t.trace = s.trace ∧ t.air = s.air ∧ t.dev = s.dev ∧ t.key = s.key ∧ t.addr = s.addr ∧ t.rc = s.rc ∧
    t.bufs = s.bufs ∧ t.rdv = s.rdv ∧ t.wt = s.wt ∧ t.cfg = s.cfg ∧
    t.status.initd = s.status.initd ∧ t.status.kv = s.status.kv ∧ t.status.av = s.status.av ∧
    t.status.rv = s.status.rv ∧ (t.status.warn ≠ s.status.warn → t.sp = .i0)

/-! ## Bus micro-operations

`s.nextDraw` is what the environment does next (R11, LOG 4); `State.proceed` ends the micro-step (R198), as
`PositionsFollowTheMicroprogram` and `InitEnds` say. That the device acts on the operation and not on the header it
receives is the model's, in all of them (LOG 20). -/

/-- R155, R165, R154: SRES, answered: its code on the bus, the device in RESET with nothing known of its registers and
buffer. -/
def Obligations.SresCompletes : Prop :=
  ∀ (s : State) (r : Byte), s.nextDraw.reply = .bytes [r] →
    exec .sres s = .next (State.proceed { s with
      dev := { s.dev with mode := .reset, regs := [], fifo := s.nextDraw.fifo }
      trace := s.trace ++ [.exchange [s.cfg.params.strobeSres] (.ok [r])]
      env := s.env.tail
      drawn := s.drawn + 1 })

/-- R156, R167, R154: SIDLE, answered: in IDLE or TRANSMIT the device is idle; in RESET or UNKNOWN its state is a draw. -/
def Obligations.SidleCompletes : Prop :=
  ∀ (s : State) (r : Byte), s.nextDraw.reply = .bytes [r] →
    exec .sidle s = .next (State.proceed { s with
      dev := if s.dev.mode = .idle ∨ s.dev.mode = .transmit then { s.dev with mode := .idle }
        else { s.dev with mode := s.nextDraw.mode, regs := [], fifo := s.nextDraw.fifo }
      air := if s.dev.mode = .idle ∨ s.dev.mode = .transmit then s.air else s.air ++ s.nextDraw.air
      trace := s.trace ++ [.exchange [s.cfg.params.strobeSidle] (.ok [r])]
      env := s.env.tail
      drawn := s.drawn + 1 })

/-- R157, R168, R154: STX, answered: in IDLE the whole buffer goes on the air, it is left empty, the device transmits; in
another mode its state and what goes on the air are a draw. -/
def Obligations.StxCompletes : Prop :=
  ∀ (s : State) (r : Byte), s.nextDraw.reply = .bytes [r] →
    exec .stx s = .next (State.proceed { s with
      dev := if s.dev.mode = .idle then { s.dev with mode := .transmit, fifo := [] }
        else { s.dev with mode := s.nextDraw.mode, regs := [], fifo := s.nextDraw.fifo }
      air := if s.dev.mode = .idle then s.air ++ [s.dev.fifo] else s.air ++ s.nextDraw.air
      trace := s.trace ++ [.exchange [s.cfg.params.strobeStx] (.ok [r])]
      env := s.env.tail
      drawn := s.drawn + 1 })

/-- R158, R170, R154: SFTX, answered: in IDLE the buffer is emptied; in another mode the device's state is a draw. -/
def Obligations.SftxCompletes : Prop :=
  ∀ (s : State) (r : Byte), s.nextDraw.reply = .bytes [r] →
    exec .sftx s = .next (State.proceed { s with
      dev := if s.dev.mode = .idle then { s.dev with fifo := [] }
        else { s.dev with mode := s.nextDraw.mode, regs := [], fifo := s.nextDraw.fifo }
      air := if s.dev.mode = .idle then s.air else s.air ++ s.nextDraw.air
      trace := s.trace ++ [.exchange [s.cfg.params.strobeSftx] (.ok [r])]
      env := s.env.tail
      drawn := s.drawn + 1 })

/-- R152, R171: WREG, answered: address and value on the bus; in IDLE the register at the address holds the value and
every other register what it held; in another mode the device's state is a draw. That the device stores whatever code the
address equals is the model's (LOG 20). -/
def Obligations.WregCompletes : Prop :=
  ∀ (s : State) (addr value r0 r1 : Byte), s.nextDraw.reply = .bytes [r0, r1] →
    exec (.wreg addr value) s = .next (State.proceed { s with
      dev := if s.dev.mode = .idle then { s.dev with regs := s.dev.regs.write addr.toNat value }
        else { s.dev with mode := s.nextDraw.mode, regs := [], fifo := s.nextDraw.fifo }
      air := if s.dev.mode = .idle then s.air else s.air ++ s.nextDraw.air
      trace := s.trace ++ [.exchange [addr, value] (.ok [r0, r1])]
      env := s.env.tail
      drawn := s.drawn + 1 }) ∧
    (s.dev.regs.write addr.toNat value).read? addr.toNat = some value ∧
    ∀ a, a ≠ addr.toNat → (s.dev.regs.write addr.toNat value).read? a = s.dev.regs.read? a

/-- R153, R171: RREG, answered: the header is the address with the read flag, the second byte FILL; RDV takes byte 1 of the
answer, which in IDLE is the identification at ID_REG, else the register if it is defined, else the draw; in another mode
the draw, and so is the device's state. -/
def Obligations.RregCompletes : Prop :=
  ∀ (s : State) (addr r0 r1 : Byte), s.nextDraw.reply = .bytes [r0, r1] →
    let v := if s.dev.mode = .idle then
        if addr = s.cfg.params.idReg then s.dev.id else (s.dev.regs.read? addr.toNat).getD r1
      else r1
    exec (.rreg addr) s = .next (State.proceed { s with
      rdv := v
      dev := if s.dev.mode = .idle then s.dev
        else { s.dev with mode := s.nextDraw.mode, regs := [], fifo := s.nextDraw.fifo }
      air := if s.dev.mode = .idle then s.air else s.air ++ s.nextDraw.air
      trace := s.trace ++ [.exchange [addr ||| s.cfg.params.readFlag, s.cfg.params.fill] (.ok [r0, v])]
      env := s.env.tail
      drawn := s.drawn + 1 })

/-- R159, R172: BURSTW, answered: the header and the whole payload in one exchange; in IDLE the payload is appended to the
buffer; in another mode the device's state is a draw. -/
def Obligations.BurstwCompletes : Prop :=
  ∀ (s : State) (payload resp : List Byte), s.nextDraw.reply = .bytes resp → resp.length = payload.length + 1 →
    exec (.burstw payload) s = .next (State.proceed { s with
      dev := if s.dev.mode = .idle then { s.dev with fifo := s.dev.fifo ++ payload }
        else { s.dev with mode := s.nextDraw.mode, regs := [], fifo := s.nextDraw.fifo }
      air := if s.dev.mode = .idle then s.air else s.air ++ s.nextDraw.air
      trace := s.trace ++ [.exchange (s.cfg.params.txbufBurst :: payload) (.ok resp)]
      env := s.env.tail
      drawn := s.drawn + 1 })

/-- R160, R31: WAIT adds its event when it begins, and ends no earlier than its duration: with `left` still to pass (the
whole duration at its beginning) it ends when at least that much time passes, else the timer holds the rest. The device may
make its own move meanwhile (R166, R169, U12). Milliseconds, the steps a wait is cut into, and that at least one millisecond
passes in each (`Draw.passes`) are the model's (LOG 6). -/
def Obligations.WaitCompletes : Prop :=
  ∀ (s : State) (t : Duration),
    let left := if s.wt = 0 then t.value s.cfg else s.wt
    let dev := if s.nextDraw.settled then s.dev.ownMove else s.dev
    let trace := if s.wt = 0 then s.trace ++ [.wait t] else s.trace
    (left ≤ s.nextDraw.passes → exec (.wait t) s = .next (State.proceed { s with
      wt := 0, dev := dev, trace := trace, env := s.env.tail, drawn := s.drawn + 1 })) ∧
    (s.nextDraw.passes < left → exec (.wait t) s = .next { s with
      wt := left - s.nextDraw.passes, dev := dev, trace := trace, env := s.env.tail, drawn := s.drawn + 1 })

/-- R151, R197, R174, D28: a failed exchange ends the operation, for each of the seven micro-operations: the failed event
is the last, ERR with KIND, phase and index of the position, BUSY = 0, SP = IDLE; the device acted or did not, as drawn;
nothing else changes. -/
def Obligations.FailedExchangeAborts : Prop :=
  ∀ (s : State) (op : BusOp), failing (busRequest s.cfg op) s.nextDraw = true →
    exec (busInstr op) s = .next { s with
      status := { s.status with busy := false, err := true }
      errinfo := errorWord .transport s.sp.phase s.sp.index
      sp := .idle
      dev := if s.nextDraw.acted then s.dev.act op s.nextDraw else s.dev
      air := if s.nextDraw.acted then s.air ++ s.dev.airOf op s.nextDraw else s.air
      trace := s.trace ++ [.exchange (busRequest s.cfg op) .fail]
      env := s.env.tail
      drawn := s.drawn + 1 }

/-- U5, R199: while the transport neither answers nor fails, the micro-step is not over and nothing moves. -/
def Obligations.SilentTransportKeepsThePosition : Prop :=
  ∀ (s : State) (op : BusOp), s.nextDraw.reply = .silent →
    exec (busInstr op) s = .next { s with env := s.env.tail, drawn := s.drawn + 1 }

/-- R221, R222 and section 2.9 of 95_test_vectors.md: the error record of an abort at each position an exchange is made at.
(An index is below 256: R6 (b) leaves no longer table.) -/
def Obligations.AbortRecordNamesThePosition : Prop :=
  let record (p : Pos) := (errorWord .transport p.phase p.index).toNat
  record .i0 = 0x1100 ∧ (∀ j, j < 256 → record (.i2 j) = 0x1200 + j) ∧ record .i3 = 0x1300 ∧
  record .s1 = 0x1400 ∧ record .s2 = 0x1500 ∧
  (∀ k : Fin 9, record (.fa k) = 0x1600 + k.val ∧ record (.fb k) = 0x1600 + k.val)

/-- R222's own inference ("derived: a table keyed by a 1-byte address with all addresses different has at most 256 entries"):
N_CFG is at most 256, so every table index fits INDEX. -/
def Obligations.TableFitsTheIndex : Prop := ∀ cfg : Config, cfg.params.nCfg ≤ 256

/-! ## The sequencer -/

/-- R198, R28: after each position of INIT and of SEND comes the next of the list, and IDLE after the last. -/
def Obligations.PositionsFollowTheMicroprogram : Prop :=
  ∀ cfg : Config,
    List.IsChain (fun p q => p.next cfg = q) (initPositions cfg ++ [.idle]) ∧
    List.IsChain (fun p q => p.next cfg = q) (sendPositions ++ [.idle]) ∧
    (∀ s : State, s.proceed.sp = s.sp.next s.cfg ∧
      (s.sp ≠ .i3 → s.proceed = { s with sp := s.sp.next s.cfg }))

/-- R161, R193, R194: the operations at the positions, in order, are the microprograms. -/
def Obligations.PositionsPerformTheMicroprograms : Prop :=
  ∀ s : State,
    (initPositions s.cfg).filterMap (fun p => State.microOp { s with sp := p }) = initProgram s.cfg ∧
    sendPositions.filterMap (fun p => State.microOp { s with sp := p }) = sendProgram s.bufs.txbuf

/-- R9, R198, R190: a step performs the operation due. With no turn listed, or the sequencer's first, it is the one at SP;
with a host write to OP first, the one its byte decodes to, in the state without that turn; the other turns and IDLE as R9
and R260 say. The list of turns is the model's (LOG 5). -/
def Obligations.StepPerformsTheOperationDue : Prop :=
  (∀ (s : State) (i : Instr), s.turns = [] → s.microOp = some i → step s = exec i s) ∧
  (∀ (s : State) (i : Instr) (rest : List Turn), s.turns = .sequencer :: rest → s.microOp = some i →
    step s = exec i { s with turns := rest }) ∧
  (∀ (s : State) (v : BitVec 24) (i : Instr) (rest : List Turn), s.turns = .host (.write 0 v) :: rest →
    decodeOp (v.setWidth 8) = .ok i → step s = exec i { s with turns := rest }) ∧
  (∀ (s : State) (a : HostAction) (rest : List Turn), s.turns = .host a :: rest →
    step s = State.hostActs { s with turns := rest } a) ∧
  (∀ s : State, s.turns = [] → s.sp = .idle → step s = .next s)

/-- R193, S0: one step builds, obfuscates, encodes and composes from the latched operands. -/
def Obligations.BuildStepFillsTheBuffers : Prop :=
  ∀ s : State, s.turns = [] → s.sp = .s0 →
    let f := frameOf s.latch.key s.latch.cmd s.latch.rc s.latch.addr
    step s = .next { s with
      bufs := ⟨f, encodeLine s.cfg f.toBytes, composeBuffer s.cfg f⟩, out := composeBuffer s.cfg f, sp := .s1 }

/-- R161, R163, R224: at I3, the read answered, INIT ends with success: WARN is the mismatch of the value read, INITD and DONE
set, BUSY clear. -/
def Obligations.InitEnds : Prop :=
  ∀ (s : State) (r0 r1 : Byte), s.turns = [] → s.sp = .i3 → s.nextDraw.reply = .bytes [r0, r1] →
    ∃ t, step s = .next t ∧ t.sp = .idle ∧
      t.status = { s.status with
        busy := false, done := true, initd := true, warn := t.rdv != s.cfg.params.idExpected } ∧
      (s.dev.mode = .idle → t.rdv = s.dev.id) ∧ t.errinfo = s.errinfo ∧ t.key = s.key ∧ t.addr = s.addr ∧ t.rc = s.rc

/-- R196: position S3 writes RC with the latched code plus one modulo 65536, sets DONE, clears BUSY, and nothing else. -/
def Obligations.CommitAdvancesTheRollingCode : Prop :=
  ∀ s : State, s.turns = [] → s.sp = .s3 →
    ∃ v, v.toNat = (s.latch.rc.toNat + 1) % 65536 ∧
      step s = .next { s with rc := v, status := { s.status with busy := false, done := true }, sp := .idle }

/-- R38: no step of the sequencer writes KEY or ADDR, and only position S3 writes RC. -/
def Obligations.OnlyCommitWritesTheRollingCode : Prop :=
  ∀ s t : State, s.microStep = .next t → t.key = s.key ∧ t.addr = s.addr ∧ (s.sp ≠ .s3 → t.rc = s.rc)

/-! ## Frames of all operations -/

/-- R20 to R32, by what each rule says the operation writes: whatever operation is performed, in whatever state, the identity,
the configuration, the buffers, the host's value and the turns stay; only a SEND writes the latches, only RREG writes
RDV, only WAIT the timer; only the bus operations and WAIT touch the device, the trace and the air; the pure functions
write nothing but `out` (LOG 10). -/
def Obligations.OperationsKeepTheRegisters : Prop :=
  ∀ (i : Instr) (s t : State), exec i s = .next t →
    t.cfg = s.cfg ∧ t.key = s.key ∧ t.addr = s.addr ∧ t.rc = s.rc ∧ t.bufs = s.bufs ∧ t.hostData = s.hostData ∧
    t.turns = s.turns ∧ t.dev.id = s.dev.id ∧
    t.status.kv = s.status.kv ∧ t.status.av = s.status.av ∧ t.status.rv = s.status.rv ∧
    ((∀ c, (i, c) ∉ sends) → t.latch = s.latch) ∧
    ((∀ a, i ≠ .rreg a) → t.rdv = s.rdv) ∧
    ((∀ d, i ≠ .wait d) → t.wt = s.wt) ∧
    ((∀ op, i ≠ busInstr op) → (∀ d, i ≠ .wait d) → t.dev = s.dev ∧ t.trace = s.trace ∧ t.air = s.air) ∧
    ((∀ op, i ≠ busInstr op) → (∀ d, i ≠ .wait d) → i ≠ .init → (∀ c, (i, c) ∉ sends) → t = { s with out := t.out })

/-- R62, R171: with the device in IDLE no operation but SRES and WREG changes a register of the device, and WREG changes only
the one at its address. That the device acts on the operation and not on its header is the model's (LOG 20). -/
def Obligations.OnlyWregStores : Prop :=
  ∀ (i : Instr) (s t : State), exec i s = .next t → i ≠ .sres → s.dev.mode = .idle →
    ∀ a, (∀ addr value, i = .wreg addr value → a ≠ addr.toNat) → t.dev.regs.read? a = s.dev.regs.read? a

/-! ## The whole machine -/

/-- R39: what the block's reset leaves, as far as the spec gives it: STATUS, ERRINFO, OP reading zero, SP, WT, the device
UNKNOWN with no register known; and no configuration but one R6 admits. -/
def Obligations.ResetState : Prop :=
  State.reset.status.toByte = 0 ∧ State.reset.errinfo = 0 ∧ State.reset.hostRegister 0 = 0 ∧
  State.reset.sp = .idle ∧ State.reset.wt = 0 ∧ State.reset.dev.mode = .unknown ∧
  (∀ a, State.reset.dev.regs.read? a = none) ∧ State.reset.cfg.params.problem = none

/-- R260, R39: the block's reset, in any state: the block's registers as after power-on, the device not reset, its mode
UNKNOWN and nothing known of it; the values of the registers R39 leaves unspecified are the model's (LOG 3, LOG 18). -/
def Obligations.BlockResetStep : Prop :=
  ∀ (s : State) (rest : List Turn), s.turns = .reset :: rest →
    ∃ t, step s = .next t ∧ t.status.toByte = 0 ∧ t.errinfo = 0 ∧ t.sp = .idle ∧ t.wt = 0 ∧
      t.dev.mode = .unknown ∧ (∀ a, t.dev.regs.read? a = none) ∧ t.dev.id = s.dev.id ∧
      t.cfg = s.cfg ∧ t.trace = s.trace ∧ t.air = s.air ∧ t.turns = rest ∧ t.key = 0 ∧ t.addr = 0 ∧ t.rc = 0

/-- R166, R169: the transceiver's own move, from RESET or TRANSMIT to IDLE; in another mode it has none. Nothing of the
block changes. -/
def Obligations.DeviceMovesByItself : Prop :=
  ∀ (s : State) (rest : List Turn), s.turns = .device :: rest →
    ((s.dev.mode = .reset ∨ s.dev.mode = .transmit) →
      step s = .next { s with turns := rest, dev := { s.dev with mode := .idle } }) ∧
    ((s.dev.mode = .idle ∨ s.dev.mode = .unknown) → step s = .next { s with turns := rest })

/-- The invariant holds after reset. -/
def Obligations.InvAtReset : Prop := Inv State.reset

/-- R26, R28, R31, R67, R68, R191, R193, R220 to R222, R230: every step keeps the invariant, whoever moves. -/
def Obligations.StepKeepsInv : Prop := ∀ s t : State, Inv s → step s = .next t → Inv t

/-- R28, R142: in a state that meets the invariant no step stops. -/
def Obligations.InvStateSteps : Prop := ∀ s : State, Inv s → ∃ t, step s = .next t

/-- R10, R35, R69: no step changes the configuration, takes back an event of the trace or of the air, or changes the
identification of the device. -/
def Obligations.ConfigurationAndPastStay : Prop :=
  ∀ s t : State, step s = .next t →
    t.cfg = s.cfg ∧ t.dev.id = s.dev.id ∧ (∃ e, t.trace = s.trace ++ e) ∧ (∃ a, t.air = s.air ++ a)

/-- R24, R191: only the block's reset clears a valid bit or INITD. -/
def Obligations.OnlyResetClearsValidBits : Prop :=
  ∀ s t : State, (∀ rest, s.turns ≠ .reset :: rest) → step s = .next t →
    (s.status.kv = true → t.status.kv = true) ∧ (s.status.av = true → t.status.av = true) ∧
    (s.status.rv = true → t.status.rv = true) ∧ (s.status.initd = true → t.status.initd = true)

/-- R34, R175, U3: but for the identification read at I3, the block does not depend on the device: from two states that
differ only in the device and in what was on the air, a step leads to two that differ only there. -/
def Obligations.BlockDoesNotSeeTheDevice : Prop :=
  ∀ (s t : State) (dev : Dev) (air : List (List Byte)), s.sp ≠ .i3 → step s = .next t →
    ∃ dev' air', step { s with dev := dev, air := air } = .next { t with dev := dev', air := air' }

/-- R161, R163, R33, R175: a bring-up in which every exchange is answered and the settle wait is long enough, from I0 in
whatever mode the device is: after one step a position INIT has ended with success, its requests are the reset strobe, the
table in order and the identification read, and the device is idle with every table entry in its registers. That one step
does a position rests on the model's draws (LOG 4), on waits that may pass in one step (LOG 6) and in which the device may move
(LOG 7); that each write stores whatever code its address equals is the model's (LOG 20). -/
def Obligations.BringUpRuns : Prop :=
  ∀ (s : State) (draws rest : List Draw), s.turns = [] → s.sp = .i0 → s.wt = 0 → s.env = draws ++ rest →
    goodDraws s.cfg (initProgram s.cfg) draws = true →
    ∃ t, Sys2Proof.core.run (s.cfg.params.nCfg + 3) s = .next t ∧ t.sp = .idle ∧
      t.status = { s.status with
        busy := false, done := true, initd := true, warn := s.dev.id != s.cfg.params.idExpected } ∧
      requestsOf t.trace = requestsOf s.trace ++ [[s.cfg.params.strobeSres]] ++
        s.cfg.params.cfgTable.map (fun e => [e.1, e.2]) ++ [[readHeader s.cfg s.cfg.params.idReg, s.cfg.params.fill]] ∧
      t.dev.mode = .idle ∧ (∀ e ∈ s.cfg.params.cfgTable, t.dev.regs.read? e.1.toNat = some e.2) ∧
      t.air = s.air ∧ t.key = s.key ∧ t.addr = s.addr ∧ t.rc = s.rc ∧ t.env = rest

/-- R193, R194, R196, R200, R201: a send in which every exchange is answered and the waits are long enough, from S0 with the
device in IDLE or TRANSMIT, has ended after 39 steps: twenty requests in the order of the microprogram, the composite buffer
nine times on the air, RC the latched code plus one modulo 65536 (that S3 alone writes it, and comes last, say
`OnlyCommitWritesTheRollingCode` and `PositionsFollowTheMicroprogram`). One step a position rests on the model's draws (LOG 4),
on waits that may pass in one step (LOG 6) and in which the device may move (LOG 7); that the device acts on the operation and not
on its header is the model's (LOG 20). -/
def Obligations.SendTransmitsNineTimesThenCommits : Prop :=
  ∀ (s : State) (draws rest : List Draw), s.turns = [] → s.sp = .s0 → s.wt = 0 →
    (s.dev.mode = .idle ∨ s.dev.mode = .transmit) → s.env = draws ++ rest →
    let tx := composeBuffer s.cfg s.latchedFrame
    goodDraws s.cfg (sendProgram tx) draws = true →
    ∃ t, Sys2Proof.core.run 39 s = .next t ∧ t.sp = .idle ∧
      t.status = { s.status with busy := false, done := true } ∧
      t.rc.toNat = (s.latch.rc.toNat + 1) % 65536 ∧ t.key = s.key ∧ t.addr = s.addr ∧
      t.air = s.air ++ List.replicate 9 tx ∧
      requestsOf t.trace = requestsOf s.trace ++ [[s.cfg.params.strobeSidle], [s.cfg.params.strobeSftx]] ++
        (List.replicate 9 [s.cfg.params.txbufBurst :: tx, [s.cfg.params.strobeStx]]).flatten ∧
      t.dev.mode = .idle ∧ t.env = rest

/-- R198: while an operation runs every micro-step brings its end nearer: `stepsLeft` falls, but in a step at whose exchange the
transport is silent, which leaves it as it was (U5). The steps a wait is cut into are the model's (LOG 6). -/
def Obligations.MicroStepsCountDown : Prop :=
  ∀ s t : State, Inv s → s.sp ≠ .idle → s.microStep = .next t →
    (s.sp.isExchange = true → speaks s.nextDraw = false → stepsLeft t = stepsLeft s) ∧
    (s.sp.isExchange = false ∨ speaks s.nextDraw = true → stepsLeft t < stepsLeft s)

/-- R198, R67: both sequences end in a run where no exchange blocks for ever. Whatever the draws are, with silent ones as many as
there may be among them: if at least `stepsLeft` of those listed are not silent, the operation has ended within two steps more
than draws are listed, with BUSY clear, and has made no more exchanges than R198 says (2 + N_CFG from I0, 20 from S0). That draws
are listed, and the steps a wait is cut into, are the model's (LOG 4, LOG 6). -/
def Obligations.OperationsEnd : Prop :=
  (∀ s : State, Inv s → s.turns = [] → stepsLeft s ≤ (s.env.filter speaks).length →
    ∃ n t, n ≤ s.env.length + 2 ∧ Sys2Proof.core.run n s = .next t ∧ t.sp = .idle ∧ t.status.busy = false ∧
      (requestsOf t.trace).length ≤ (requestsOf s.trace).length + exchangesFrom s.cfg s.sp) ∧
  ∀ cfg : Config, exchangesFrom cfg .i0 = 2 + cfg.params.nCfg ∧ exchangesFrom cfg .s0 = 20
end

