-- ==== Sys2Proof/Laws/Memory.lean ====
section
/-!
SUPPORT. The transceiver's registers: a read after a write, and that every operation keeps the canonical form.
-/

namespace Sys2Proof.Machine

@[simp] theorem Memory.read?_nil (a : Nat) : Memory.read? [] a = none := rfl

theorem Memory.read?_write_same (m : Memory) (a : Nat) (v : Byte) : (Memory.write m a v).read? a = some v := by
  induction m with
  | nil => simp [Memory.write, Memory.read?]
  | cons c rest ih =>
    unfold Memory.write
    split
    · simp [Memory.read?]
    · split
      · simp [Memory.read?]
      · rename_i h1 h2
        have : c.1 ≠ a := fun h => h2 h.symm
        simp [Memory.read?, this, ih]

theorem Memory.read?_write_other (m : Memory) {a b : Nat} (v : Byte) (h : b ≠ a) :
    (Memory.write m a v).read? b = m.read? b := by
  induction m with
  | nil => simp [Memory.write, Memory.read?, Ne.symm h]
  | cons c rest ih =>
    unfold Memory.write
    split
    · simp [Memory.read?, Ne.symm h]
    · split
      · rename_i h2
        simp [Memory.read?, Ne.symm h, ← h2]
      · simp [Memory.read?, ih]

theorem Memory.risesFrom_mono {m : Memory} {lo lo' : Nat} (h : lo' ≤ lo) (hm : Memory.risesFrom lo m = true) :
    Memory.risesFrom lo' m = true := by
  cases m with
  | nil => rfl
  | cons c rest =>
    simp only [Memory.risesFrom, Bool.and_eq_true, decide_eq_true_eq] at hm ⊢
    exact ⟨by omega, hm.2⟩

theorem Memory.risesFrom_write {m : Memory} {lo a : Nat} (v : Byte) (hm : Memory.risesFrom lo m = true)
    (ha : lo ≤ a) : Memory.risesFrom lo (m.write a v) = true := by
  induction m generalizing lo with
  | nil => simp [Memory.write, Memory.risesFrom, ha]
  | cons c rest ih =>
    simp only [Memory.risesFrom, Bool.and_eq_true, decide_eq_true_eq] at hm
    unfold Memory.write
    split
    · simp only [Memory.risesFrom, Bool.and_eq_true, decide_eq_true_eq]
      exact ⟨ha, by omega, hm.2⟩
    · split
      · rename_i h2
        simp only [Memory.risesFrom, Bool.and_eq_true, decide_eq_true_eq]
        exact ⟨ha, h2 ▸ hm.2⟩
      · rename_i h1 h2
        simp only [Memory.risesFrom, Bool.and_eq_true, decide_eq_true_eq]
        exact ⟨hm.1, ih hm.2 (by omega)⟩

theorem Memory.all_write {m : Memory} {p : Host.Cell → Bool} {a : Nat} {v : Byte} (hm : m.all p = true)
    (hp : p (a, v) = true) : (m.write a v).all p = true := by
  induction m with
  | nil => simp [Memory.write, hp]
  | cons c rest ih =>
    simp only [List.all_cons, Bool.and_eq_true] at hm
    unfold Memory.write
    split
    · simp [hp, hm.1, hm.2]
    · split
      · simp [hp, hm.2]
      · simp [hm.1, ih hm.2]

@[simp] theorem Memory.wf_nil : Memory.wf [] = true := rfl

/-- A write of a byte at a byte's address keeps the canonical form (R52). -/
theorem Memory.wf_write {m : Memory} (addr v : Byte) (hm : m.wf = true) : (m.write addr.toNat v).wf = true := by
  simp only [Memory.wf, Bool.and_eq_true] at hm ⊢
  exact ⟨Memory.risesFrom_write v hm.1 (Nat.zero_le _), Memory.all_write hm.2 (by simpa using addr.isLt)⟩

/-- The transceiver's own move leaves its registers, buffer and identification. -/
@[simp] theorem Dev.ownMove_regs (dev : Dev) : dev.ownMove.regs = dev.regs := by
  unfold Dev.ownMove; split <;> rfl

@[simp] theorem Dev.ownMove_fifo (dev : Dev) : dev.ownMove.fifo = dev.fifo := by
  unfold Dev.ownMove; split <;> rfl

@[simp] theorem Dev.ownMove_id (dev : Dev) : dev.ownMove.id = dev.id := by
  unfold Dev.ownMove; split <;> rfl

/-- No effect of a micro-operation breaks the canonical form. -/
theorem Dev.act_wf (op : BusOp) (d : Draw) {dev : Dev} (h : dev.regs.wf = true) : (dev.act op d).regs.wf = true := by
  cases op with
  | wreg addr value => cases hm : dev.mode <;> simp [Dev.act, Dev.unspecified, hm, h, Memory.wf_write]
  | sres => rfl
  | sidle => cases hm : dev.mode <;> simp [Dev.act, Dev.unspecified, hm, h]
  | stx => cases hm : dev.mode <;> simp [Dev.act, Dev.unspecified, hm, h]
  | sftx => cases hm : dev.mode <;> simp [Dev.act, Dev.unspecified, hm, h]
  | rreg addr => cases hm : dev.mode <;> simp [Dev.act, Dev.unspecified, hm, h]
  | burstw payload => cases hm : dev.mode <;> simp [Dev.act, Dev.unspecified, hm, h]

/-- The identification is a constant of the environment (R175). -/
@[simp] theorem Dev.act_id (op : BusOp) (d : Draw) (dev : Dev) : (dev.act op d).id = dev.id := by
  cases op <;> cases hm : dev.mode <;> simp [Dev.act, Dev.unspecified, hm]

end Sys2Proof.Machine
end

