-- ==== Sys2Proof/Laws/State.lean ====
section
/-!
SUPPORT. One lemma for each field of the state and each update of Machine/Ops.lean, so that no proof unfolds a
record update; and the bits of STATUS after each flag operation.
-/

namespace Sys2Proof.Machine

/-! ### drawNext -/

@[simp] theorem State.drawNext_cfg (s : State) : s.drawNext.cfg = s.cfg := rfl
@[simp] theorem State.drawNext_key (s : State) : s.drawNext.key = s.key := rfl
@[simp] theorem State.drawNext_addr (s : State) : s.drawNext.addr = s.addr := rfl
@[simp] theorem State.drawNext_rc (s : State) : s.drawNext.rc = s.rc := rfl
@[simp] theorem State.drawNext_status (s : State) : s.drawNext.status = s.status := rfl
@[simp] theorem State.drawNext_errinfo (s : State) : s.drawNext.errinfo = s.errinfo := rfl
@[simp] theorem State.drawNext_sp (s : State) : s.drawNext.sp = s.sp := rfl
@[simp] theorem State.drawNext_latch (s : State) : s.drawNext.latch = s.latch := rfl
@[simp] theorem State.drawNext_bufs (s : State) : s.drawNext.bufs = s.bufs := rfl
@[simp] theorem State.drawNext_wt (s : State) : s.drawNext.wt = s.wt := rfl
@[simp] theorem State.drawNext_rdv (s : State) : s.drawNext.rdv = s.rdv := rfl
@[simp] theorem State.drawNext_dev (s : State) : s.drawNext.dev = s.dev := rfl
@[simp] theorem State.drawNext_out (s : State) : s.drawNext.out = s.out := rfl
@[simp] theorem State.drawNext_trace (s : State) : s.drawNext.trace = s.trace := rfl
@[simp] theorem State.drawNext_air (s : State) : s.drawNext.air = s.air := rfl
@[simp] theorem State.drawNext_hostData (s : State) : s.drawNext.hostData = s.hostData := rfl
@[simp] theorem State.drawNext_turns (s : State) : s.drawNext.turns = s.turns := rfl
@[simp] theorem State.drawNext_env (s : State) : s.drawNext.env = s.env.tail := rfl
@[simp] theorem State.drawNext_drawn (s : State) : s.drawNext.drawn = s.drawn + 1 := rfl

/-! ### deviceActs -/

@[simp] theorem State.deviceActs_cfg (s : State) (op : BusOp) (d : Draw) : (s.deviceActs op d).cfg = s.cfg := rfl
@[simp] theorem State.deviceActs_key (s : State) (op : BusOp) (d : Draw) : (s.deviceActs op d).key = s.key := rfl
@[simp] theorem State.deviceActs_addr (s : State) (op : BusOp) (d : Draw) : (s.deviceActs op d).addr = s.addr := rfl
@[simp] theorem State.deviceActs_rc (s : State) (op : BusOp) (d : Draw) : (s.deviceActs op d).rc = s.rc := rfl
@[simp] theorem State.deviceActs_status (s : State) (op : BusOp) (d : Draw) : (s.deviceActs op d).status = s.status := rfl
@[simp] theorem State.deviceActs_errinfo (s : State) (op : BusOp) (d : Draw) : (s.deviceActs op d).errinfo = s.errinfo := rfl
@[simp] theorem State.deviceActs_sp (s : State) (op : BusOp) (d : Draw) : (s.deviceActs op d).sp = s.sp := rfl
@[simp] theorem State.deviceActs_latch (s : State) (op : BusOp) (d : Draw) : (s.deviceActs op d).latch = s.latch := rfl
@[simp] theorem State.deviceActs_bufs (s : State) (op : BusOp) (d : Draw) : (s.deviceActs op d).bufs = s.bufs := rfl
@[simp] theorem State.deviceActs_wt (s : State) (op : BusOp) (d : Draw) : (s.deviceActs op d).wt = s.wt := rfl
@[simp] theorem State.deviceActs_rdv (s : State) (op : BusOp) (d : Draw) : (s.deviceActs op d).rdv = s.rdv := rfl
@[simp] theorem State.deviceActs_dev (s : State) (op : BusOp) (d : Draw) : (s.deviceActs op d).dev = s.dev.act op d := rfl
@[simp] theorem State.deviceActs_out (s : State) (op : BusOp) (d : Draw) : (s.deviceActs op d).out = s.out := rfl
@[simp] theorem State.deviceActs_trace (s : State) (op : BusOp) (d : Draw) : (s.deviceActs op d).trace = s.trace := rfl
@[simp] theorem State.deviceActs_air (s : State) (op : BusOp) (d : Draw) : (s.deviceActs op d).air = s.air ++ s.dev.airOf op d := rfl
@[simp] theorem State.deviceActs_hostData (s : State) (op : BusOp) (d : Draw) : (s.deviceActs op d).hostData = s.hostData := rfl
@[simp] theorem State.deviceActs_turns (s : State) (op : BusOp) (d : Draw) : (s.deviceActs op d).turns = s.turns := rfl
@[simp] theorem State.deviceActs_env (s : State) (op : BusOp) (d : Draw) : (s.deviceActs op d).env = s.env := rfl
@[simp] theorem State.deviceActs_drawn (s : State) (op : BusOp) (d : Draw) : (s.deviceActs op d).drawn = s.drawn := rfl

/-! ### deviceMoves -/

@[simp] theorem State.deviceMoves_cfg (s : State) : s.deviceMoves.cfg = s.cfg := rfl
@[simp] theorem State.deviceMoves_key (s : State) : s.deviceMoves.key = s.key := rfl
@[simp] theorem State.deviceMoves_addr (s : State) : s.deviceMoves.addr = s.addr := rfl
@[simp] theorem State.deviceMoves_rc (s : State) : s.deviceMoves.rc = s.rc := rfl
@[simp] theorem State.deviceMoves_status (s : State) : s.deviceMoves.status = s.status := rfl
@[simp] theorem State.deviceMoves_errinfo (s : State) : s.deviceMoves.errinfo = s.errinfo := rfl
@[simp] theorem State.deviceMoves_sp (s : State) : s.deviceMoves.sp = s.sp := rfl
@[simp] theorem State.deviceMoves_latch (s : State) : s.deviceMoves.latch = s.latch := rfl
@[simp] theorem State.deviceMoves_bufs (s : State) : s.deviceMoves.bufs = s.bufs := rfl
@[simp] theorem State.deviceMoves_wt (s : State) : s.deviceMoves.wt = s.wt := rfl
@[simp] theorem State.deviceMoves_rdv (s : State) : s.deviceMoves.rdv = s.rdv := rfl
@[simp] theorem State.deviceMoves_dev (s : State) : s.deviceMoves.dev = s.dev.ownMove := rfl
@[simp] theorem State.deviceMoves_out (s : State) : s.deviceMoves.out = s.out := rfl
@[simp] theorem State.deviceMoves_trace (s : State) : s.deviceMoves.trace = s.trace := rfl
@[simp] theorem State.deviceMoves_air (s : State) : s.deviceMoves.air = s.air := rfl
@[simp] theorem State.deviceMoves_hostData (s : State) : s.deviceMoves.hostData = s.hostData := rfl
@[simp] theorem State.deviceMoves_turns (s : State) : s.deviceMoves.turns = s.turns := rfl
@[simp] theorem State.deviceMoves_env (s : State) : s.deviceMoves.env = s.env := rfl
@[simp] theorem State.deviceMoves_drawn (s : State) : s.deviceMoves.drawn = s.drawn := rfl

/-! ### takeError -/

@[simp] theorem State.takeError_cfg (s : State) (k : Kind) (p : Phase) (i : BitVec 8) : (s.takeError k p i).cfg = s.cfg := rfl
@[simp] theorem State.takeError_key (s : State) (k : Kind) (p : Phase) (i : BitVec 8) : (s.takeError k p i).key = s.key := rfl
@[simp] theorem State.takeError_addr (s : State) (k : Kind) (p : Phase) (i : BitVec 8) : (s.takeError k p i).addr = s.addr := rfl
@[simp] theorem State.takeError_rc (s : State) (k : Kind) (p : Phase) (i : BitVec 8) : (s.takeError k p i).rc = s.rc := rfl
@[simp] theorem State.takeError_status (s : State) (k : Kind) (p : Phase) (i : BitVec 8) : (s.takeError k p i).status = s.status.fail := rfl
@[simp] theorem State.takeError_errinfo (s : State) (k : Kind) (p : Phase) (i : BitVec 8) : (s.takeError k p i).errinfo = errorWord k p i := rfl
@[simp] theorem State.takeError_sp (s : State) (k : Kind) (p : Phase) (i : BitVec 8) : (s.takeError k p i).sp = .idle := rfl
@[simp] theorem State.takeError_latch (s : State) (k : Kind) (p : Phase) (i : BitVec 8) : (s.takeError k p i).latch = s.latch := rfl
@[simp] theorem State.takeError_bufs (s : State) (k : Kind) (p : Phase) (i : BitVec 8) : (s.takeError k p i).bufs = s.bufs := rfl
@[simp] theorem State.takeError_wt (s : State) (k : Kind) (p : Phase) (i : BitVec 8) : (s.takeError k p i).wt = s.wt := rfl
@[simp] theorem State.takeError_rdv (s : State) (k : Kind) (p : Phase) (i : BitVec 8) : (s.takeError k p i).rdv = s.rdv := rfl
@[simp] theorem State.takeError_dev (s : State) (k : Kind) (p : Phase) (i : BitVec 8) : (s.takeError k p i).dev = s.dev := rfl
@[simp] theorem State.takeError_out (s : State) (k : Kind) (p : Phase) (i : BitVec 8) : (s.takeError k p i).out = s.out := rfl
@[simp] theorem State.takeError_trace (s : State) (k : Kind) (p : Phase) (i : BitVec 8) : (s.takeError k p i).trace = s.trace := rfl
@[simp] theorem State.takeError_air (s : State) (k : Kind) (p : Phase) (i : BitVec 8) : (s.takeError k p i).air = s.air := rfl
@[simp] theorem State.takeError_hostData (s : State) (k : Kind) (p : Phase) (i : BitVec 8) : (s.takeError k p i).hostData = s.hostData := rfl
@[simp] theorem State.takeError_turns (s : State) (k : Kind) (p : Phase) (i : BitVec 8) : (s.takeError k p i).turns = s.turns := rfl
@[simp] theorem State.takeError_env (s : State) (k : Kind) (p : Phase) (i : BitVec 8) : (s.takeError k p i).env = s.env := rfl
@[simp] theorem State.takeError_drawn (s : State) (k : Kind) (p : Phase) (i : BitVec 8) : (s.takeError k p i).drawn = s.drawn := rfl

/-! ### raiseTransport -/

@[simp] theorem State.raiseTransport_cfg (s : State) : s.raiseTransport.cfg = s.cfg := rfl
@[simp] theorem State.raiseTransport_key (s : State) : s.raiseTransport.key = s.key := rfl
@[simp] theorem State.raiseTransport_addr (s : State) : s.raiseTransport.addr = s.addr := rfl
@[simp] theorem State.raiseTransport_rc (s : State) : s.raiseTransport.rc = s.rc := rfl
@[simp] theorem State.raiseTransport_status (s : State) : s.raiseTransport.status = s.status.fail := rfl
@[simp] theorem State.raiseTransport_errinfo (s : State) : s.raiseTransport.errinfo = errorWord .transport s.sp.phase s.sp.index := rfl
@[simp] theorem State.raiseTransport_sp (s : State) : s.raiseTransport.sp = .idle := rfl
@[simp] theorem State.raiseTransport_latch (s : State) : s.raiseTransport.latch = s.latch := rfl
@[simp] theorem State.raiseTransport_bufs (s : State) : s.raiseTransport.bufs = s.bufs := rfl
@[simp] theorem State.raiseTransport_wt (s : State) : s.raiseTransport.wt = s.wt := rfl
@[simp] theorem State.raiseTransport_rdv (s : State) : s.raiseTransport.rdv = s.rdv := rfl
@[simp] theorem State.raiseTransport_dev (s : State) : s.raiseTransport.dev = s.dev := rfl
@[simp] theorem State.raiseTransport_out (s : State) : s.raiseTransport.out = s.out := rfl
@[simp] theorem State.raiseTransport_trace (s : State) : s.raiseTransport.trace = s.trace := rfl
@[simp] theorem State.raiseTransport_air (s : State) : s.raiseTransport.air = s.air := rfl
@[simp] theorem State.raiseTransport_hostData (s : State) : s.raiseTransport.hostData = s.hostData := rfl
@[simp] theorem State.raiseTransport_turns (s : State) : s.raiseTransport.turns = s.turns := rfl
@[simp] theorem State.raiseTransport_env (s : State) : s.raiseTransport.env = s.env := rfl
@[simp] theorem State.raiseTransport_drawn (s : State) : s.raiseTransport.drawn = s.drawn := rfl

/-! ### refuseOp -/

@[simp] theorem State.refuseOp_cfg (s : State) (k : Kind) : (s.refuseOp k).cfg = s.cfg := rfl
@[simp] theorem State.refuseOp_key (s : State) (k : Kind) : (s.refuseOp k).key = s.key := rfl
@[simp] theorem State.refuseOp_addr (s : State) (k : Kind) : (s.refuseOp k).addr = s.addr := rfl
@[simp] theorem State.refuseOp_rc (s : State) (k : Kind) : (s.refuseOp k).rc = s.rc := rfl
@[simp] theorem State.refuseOp_status (s : State) (k : Kind) : (s.refuseOp k).status = s.status.fail := rfl
@[simp] theorem State.refuseOp_errinfo (s : State) (k : Kind) : (s.refuseOp k).errinfo = errorWord k .none 0 := rfl
@[simp] theorem State.refuseOp_sp (s : State) (k : Kind) : (s.refuseOp k).sp = .idle := rfl
@[simp] theorem State.refuseOp_latch (s : State) (k : Kind) : (s.refuseOp k).latch = s.latch := rfl
@[simp] theorem State.refuseOp_bufs (s : State) (k : Kind) : (s.refuseOp k).bufs = s.bufs := rfl
@[simp] theorem State.refuseOp_wt (s : State) (k : Kind) : (s.refuseOp k).wt = s.wt := rfl
@[simp] theorem State.refuseOp_rdv (s : State) (k : Kind) : (s.refuseOp k).rdv = s.rdv := rfl
@[simp] theorem State.refuseOp_dev (s : State) (k : Kind) : (s.refuseOp k).dev = s.dev := rfl
@[simp] theorem State.refuseOp_out (s : State) (k : Kind) : (s.refuseOp k).out = s.out := rfl
@[simp] theorem State.refuseOp_trace (s : State) (k : Kind) : (s.refuseOp k).trace = s.trace := rfl
@[simp] theorem State.refuseOp_air (s : State) (k : Kind) : (s.refuseOp k).air = s.air := rfl
@[simp] theorem State.refuseOp_hostData (s : State) (k : Kind) : (s.refuseOp k).hostData = s.hostData := rfl
@[simp] theorem State.refuseOp_turns (s : State) (k : Kind) : (s.refuseOp k).turns = s.turns := rfl
@[simp] theorem State.refuseOp_env (s : State) (k : Kind) : (s.refuseOp k).env = s.env := rfl
@[simp] theorem State.refuseOp_drawn (s : State) (k : Kind) : (s.refuseOp k).drawn = s.drawn := rfl

/-! ### clearOutcome -/

@[simp] theorem State.clearOutcome_cfg (s : State) : s.clearOutcome.cfg = s.cfg := rfl
@[simp] theorem State.clearOutcome_key (s : State) : s.clearOutcome.key = s.key := rfl
@[simp] theorem State.clearOutcome_addr (s : State) : s.clearOutcome.addr = s.addr := rfl
@[simp] theorem State.clearOutcome_rc (s : State) : s.clearOutcome.rc = s.rc := rfl
@[simp] theorem State.clearOutcome_status (s : State) : s.clearOutcome.status = s.status.clearOutcome := rfl
@[simp] theorem State.clearOutcome_errinfo (s : State) : s.clearOutcome.errinfo = 0 := rfl
@[simp] theorem State.clearOutcome_sp (s : State) : s.clearOutcome.sp = s.sp := rfl
@[simp] theorem State.clearOutcome_latch (s : State) : s.clearOutcome.latch = s.latch := rfl
@[simp] theorem State.clearOutcome_bufs (s : State) : s.clearOutcome.bufs = s.bufs := rfl
@[simp] theorem State.clearOutcome_wt (s : State) : s.clearOutcome.wt = s.wt := rfl
@[simp] theorem State.clearOutcome_rdv (s : State) : s.clearOutcome.rdv = s.rdv := rfl
@[simp] theorem State.clearOutcome_dev (s : State) : s.clearOutcome.dev = s.dev := rfl
@[simp] theorem State.clearOutcome_out (s : State) : s.clearOutcome.out = s.out := rfl
@[simp] theorem State.clearOutcome_trace (s : State) : s.clearOutcome.trace = s.trace := rfl
@[simp] theorem State.clearOutcome_air (s : State) : s.clearOutcome.air = s.air := rfl
@[simp] theorem State.clearOutcome_hostData (s : State) : s.clearOutcome.hostData = s.hostData := rfl
@[simp] theorem State.clearOutcome_turns (s : State) : s.clearOutcome.turns = s.turns := rfl
@[simp] theorem State.clearOutcome_env (s : State) : s.clearOutcome.env = s.env := rfl
@[simp] theorem State.clearOutcome_drawn (s : State) : s.clearOutcome.drawn = s.drawn := rfl

/-! ### log -/

@[simp] theorem State.log_cfg (s : State) (e : Event) : (s.log e).cfg = s.cfg := rfl
@[simp] theorem State.log_key (s : State) (e : Event) : (s.log e).key = s.key := rfl
@[simp] theorem State.log_addr (s : State) (e : Event) : (s.log e).addr = s.addr := rfl
@[simp] theorem State.log_rc (s : State) (e : Event) : (s.log e).rc = s.rc := rfl
@[simp] theorem State.log_status (s : State) (e : Event) : (s.log e).status = s.status := rfl
@[simp] theorem State.log_errinfo (s : State) (e : Event) : (s.log e).errinfo = s.errinfo := rfl
@[simp] theorem State.log_sp (s : State) (e : Event) : (s.log e).sp = s.sp := rfl
@[simp] theorem State.log_latch (s : State) (e : Event) : (s.log e).latch = s.latch := rfl
@[simp] theorem State.log_bufs (s : State) (e : Event) : (s.log e).bufs = s.bufs := rfl
@[simp] theorem State.log_wt (s : State) (e : Event) : (s.log e).wt = s.wt := rfl
@[simp] theorem State.log_rdv (s : State) (e : Event) : (s.log e).rdv = s.rdv := rfl
@[simp] theorem State.log_dev (s : State) (e : Event) : (s.log e).dev = s.dev := rfl
@[simp] theorem State.log_out (s : State) (e : Event) : (s.log e).out = s.out := rfl
@[simp] theorem State.log_trace (s : State) (e : Event) : (s.log e).trace = s.trace ++ [e] := rfl
@[simp] theorem State.log_air (s : State) (e : Event) : (s.log e).air = s.air := rfl
@[simp] theorem State.log_hostData (s : State) (e : Event) : (s.log e).hostData = s.hostData := rfl
@[simp] theorem State.log_turns (s : State) (e : Event) : (s.log e).turns = s.turns := rfl
@[simp] theorem State.log_env (s : State) (e : Event) : (s.log e).env = s.env := rfl
@[simp] theorem State.log_drawn (s : State) (e : Event) : (s.log e).drawn = s.drawn := rfl

/-! ### deliver -/

@[simp] theorem State.deliver_cfg (s : State) (bs : List Byte) : (s.deliver bs).cfg = s.cfg := rfl
@[simp] theorem State.deliver_key (s : State) (bs : List Byte) : (s.deliver bs).key = s.key := rfl
@[simp] theorem State.deliver_addr (s : State) (bs : List Byte) : (s.deliver bs).addr = s.addr := rfl
@[simp] theorem State.deliver_rc (s : State) (bs : List Byte) : (s.deliver bs).rc = s.rc := rfl
@[simp] theorem State.deliver_status (s : State) (bs : List Byte) : (s.deliver bs).status = s.status := rfl
@[simp] theorem State.deliver_errinfo (s : State) (bs : List Byte) : (s.deliver bs).errinfo = s.errinfo := rfl
@[simp] theorem State.deliver_sp (s : State) (bs : List Byte) : (s.deliver bs).sp = s.sp := rfl
@[simp] theorem State.deliver_latch (s : State) (bs : List Byte) : (s.deliver bs).latch = s.latch := rfl
@[simp] theorem State.deliver_bufs (s : State) (bs : List Byte) : (s.deliver bs).bufs = s.bufs := rfl
@[simp] theorem State.deliver_wt (s : State) (bs : List Byte) : (s.deliver bs).wt = s.wt := rfl
@[simp] theorem State.deliver_rdv (s : State) (bs : List Byte) : (s.deliver bs).rdv = s.rdv := rfl
@[simp] theorem State.deliver_dev (s : State) (bs : List Byte) : (s.deliver bs).dev = s.dev := rfl
@[simp] theorem State.deliver_out (s : State) (bs : List Byte) : (s.deliver bs).out = bs := rfl
@[simp] theorem State.deliver_trace (s : State) (bs : List Byte) : (s.deliver bs).trace = s.trace := rfl
@[simp] theorem State.deliver_air (s : State) (bs : List Byte) : (s.deliver bs).air = s.air := rfl
@[simp] theorem State.deliver_hostData (s : State) (bs : List Byte) : (s.deliver bs).hostData = s.hostData := rfl
@[simp] theorem State.deliver_turns (s : State) (bs : List Byte) : (s.deliver bs).turns = s.turns := rfl
@[simp] theorem State.deliver_env (s : State) (bs : List Byte) : (s.deliver bs).env = s.env := rfl
@[simp] theorem State.deliver_drawn (s : State) (bs : List Byte) : (s.deliver bs).drawn = s.drawn := rfl

/-! ### setTimer -/

@[simp] theorem State.setTimer_cfg (s : State) (n : Nat) : (s.setTimer n).cfg = s.cfg := rfl
@[simp] theorem State.setTimer_key (s : State) (n : Nat) : (s.setTimer n).key = s.key := rfl
@[simp] theorem State.setTimer_addr (s : State) (n : Nat) : (s.setTimer n).addr = s.addr := rfl
@[simp] theorem State.setTimer_rc (s : State) (n : Nat) : (s.setTimer n).rc = s.rc := rfl
@[simp] theorem State.setTimer_status (s : State) (n : Nat) : (s.setTimer n).status = s.status := rfl
@[simp] theorem State.setTimer_errinfo (s : State) (n : Nat) : (s.setTimer n).errinfo = s.errinfo := rfl
@[simp] theorem State.setTimer_sp (s : State) (n : Nat) : (s.setTimer n).sp = s.sp := rfl
@[simp] theorem State.setTimer_latch (s : State) (n : Nat) : (s.setTimer n).latch = s.latch := rfl
@[simp] theorem State.setTimer_bufs (s : State) (n : Nat) : (s.setTimer n).bufs = s.bufs := rfl
@[simp] theorem State.setTimer_wt (s : State) (n : Nat) : (s.setTimer n).wt = n := rfl
@[simp] theorem State.setTimer_rdv (s : State) (n : Nat) : (s.setTimer n).rdv = s.rdv := rfl
@[simp] theorem State.setTimer_dev (s : State) (n : Nat) : (s.setTimer n).dev = s.dev := rfl
@[simp] theorem State.setTimer_out (s : State) (n : Nat) : (s.setTimer n).out = s.out := rfl
@[simp] theorem State.setTimer_trace (s : State) (n : Nat) : (s.setTimer n).trace = s.trace := rfl
@[simp] theorem State.setTimer_air (s : State) (n : Nat) : (s.setTimer n).air = s.air := rfl
@[simp] theorem State.setTimer_hostData (s : State) (n : Nat) : (s.setTimer n).hostData = s.hostData := rfl
@[simp] theorem State.setTimer_turns (s : State) (n : Nat) : (s.setTimer n).turns = s.turns := rfl
@[simp] theorem State.setTimer_env (s : State) (n : Nat) : (s.setTimer n).env = s.env := rfl
@[simp] theorem State.setTimer_drawn (s : State) (n : Nat) : (s.setTimer n).drawn = s.drawn := rfl

/-! ### beginWait -/

@[simp] theorem State.beginWait_cfg (s : State) (t : Duration) : (s.beginWait t).cfg = s.cfg := rfl
@[simp] theorem State.beginWait_key (s : State) (t : Duration) : (s.beginWait t).key = s.key := rfl
@[simp] theorem State.beginWait_addr (s : State) (t : Duration) : (s.beginWait t).addr = s.addr := rfl
@[simp] theorem State.beginWait_rc (s : State) (t : Duration) : (s.beginWait t).rc = s.rc := rfl
@[simp] theorem State.beginWait_status (s : State) (t : Duration) : (s.beginWait t).status = s.status := rfl
@[simp] theorem State.beginWait_errinfo (s : State) (t : Duration) : (s.beginWait t).errinfo = s.errinfo := rfl
@[simp] theorem State.beginWait_sp (s : State) (t : Duration) : (s.beginWait t).sp = s.sp := rfl
@[simp] theorem State.beginWait_latch (s : State) (t : Duration) : (s.beginWait t).latch = s.latch := rfl
@[simp] theorem State.beginWait_bufs (s : State) (t : Duration) : (s.beginWait t).bufs = s.bufs := rfl
@[simp] theorem State.beginWait_wt (s : State) (t : Duration) : (s.beginWait t).wt = t.value s.cfg := rfl
@[simp] theorem State.beginWait_rdv (s : State) (t : Duration) : (s.beginWait t).rdv = s.rdv := rfl
@[simp] theorem State.beginWait_dev (s : State) (t : Duration) : (s.beginWait t).dev = s.dev := rfl
@[simp] theorem State.beginWait_out (s : State) (t : Duration) : (s.beginWait t).out = s.out := rfl
@[simp] theorem State.beginWait_trace (s : State) (t : Duration) : (s.beginWait t).trace = s.trace ++ [.wait t] := rfl
@[simp] theorem State.beginWait_air (s : State) (t : Duration) : (s.beginWait t).air = s.air := rfl
@[simp] theorem State.beginWait_hostData (s : State) (t : Duration) : (s.beginWait t).hostData = s.hostData := rfl
@[simp] theorem State.beginWait_turns (s : State) (t : Duration) : (s.beginWait t).turns = s.turns := rfl
@[simp] theorem State.beginWait_env (s : State) (t : Duration) : (s.beginWait t).env = s.env := rfl
@[simp] theorem State.beginWait_drawn (s : State) (t : Duration) : (s.beginWait t).drawn = s.drawn := rfl

/-! ### endInit -/

@[simp] theorem State.endInit_cfg (s : State) : s.endInit.cfg = s.cfg := rfl
@[simp] theorem State.endInit_key (s : State) : s.endInit.key = s.key := rfl
@[simp] theorem State.endInit_addr (s : State) : s.endInit.addr = s.addr := rfl
@[simp] theorem State.endInit_rc (s : State) : s.endInit.rc = s.rc := rfl
@[simp] theorem State.endInit_status (s : State) : s.endInit.status = s.status.endInit (s.rdv != s.cfg.params.idExpected) := rfl
@[simp] theorem State.endInit_errinfo (s : State) : s.endInit.errinfo = s.errinfo := rfl
@[simp] theorem State.endInit_sp (s : State) : s.endInit.sp = .idle := rfl
@[simp] theorem State.endInit_latch (s : State) : s.endInit.latch = s.latch := rfl
@[simp] theorem State.endInit_bufs (s : State) : s.endInit.bufs = s.bufs := rfl
@[simp] theorem State.endInit_wt (s : State) : s.endInit.wt = s.wt := rfl
@[simp] theorem State.endInit_rdv (s : State) : s.endInit.rdv = s.rdv := rfl
@[simp] theorem State.endInit_dev (s : State) : s.endInit.dev = s.dev := rfl
@[simp] theorem State.endInit_out (s : State) : s.endInit.out = s.out := rfl
@[simp] theorem State.endInit_trace (s : State) : s.endInit.trace = s.trace := rfl
@[simp] theorem State.endInit_air (s : State) : s.endInit.air = s.air := rfl
@[simp] theorem State.endInit_hostData (s : State) : s.endInit.hostData = s.hostData := rfl
@[simp] theorem State.endInit_turns (s : State) : s.endInit.turns = s.turns := rfl
@[simp] theorem State.endInit_env (s : State) : s.endInit.env = s.env := rfl
@[simp] theorem State.endInit_drawn (s : State) : s.endInit.drawn = s.drawn := rfl

/-! ### commit -/

@[simp] theorem State.commit_cfg (s : State) : s.commit.cfg = s.cfg := rfl
@[simp] theorem State.commit_key (s : State) : s.commit.key = s.key := rfl
@[simp] theorem State.commit_addr (s : State) : s.commit.addr = s.addr := rfl
@[simp] theorem State.commit_rc (s : State) : s.commit.rc = s.latch.rc + 1 := rfl
@[simp] theorem State.commit_status (s : State) : s.commit.status = s.status.endSend := rfl
@[simp] theorem State.commit_errinfo (s : State) : s.commit.errinfo = s.errinfo := rfl
@[simp] theorem State.commit_sp (s : State) : s.commit.sp = .idle := rfl
@[simp] theorem State.commit_latch (s : State) : s.commit.latch = s.latch := rfl
@[simp] theorem State.commit_bufs (s : State) : s.commit.bufs = s.bufs := rfl
@[simp] theorem State.commit_wt (s : State) : s.commit.wt = s.wt := rfl
@[simp] theorem State.commit_rdv (s : State) : s.commit.rdv = s.rdv := rfl
@[simp] theorem State.commit_dev (s : State) : s.commit.dev = s.dev := rfl
@[simp] theorem State.commit_out (s : State) : s.commit.out = s.out := rfl
@[simp] theorem State.commit_trace (s : State) : s.commit.trace = s.trace := rfl
@[simp] theorem State.commit_air (s : State) : s.commit.air = s.air := rfl
@[simp] theorem State.commit_hostData (s : State) : s.commit.hostData = s.hostData := rfl
@[simp] theorem State.commit_turns (s : State) : s.commit.turns = s.turns := rfl
@[simp] theorem State.commit_env (s : State) : s.commit.env = s.env := rfl
@[simp] theorem State.commit_drawn (s : State) : s.commit.drawn = s.drawn := rfl

/-! ### Status.clearOutcome -/

@[simp] theorem Status.clearOutcome_busy (st : Status) : st.clearOutcome.busy = st.busy := rfl
@[simp] theorem Status.clearOutcome_done (st : Status) : st.clearOutcome.done = false := rfl
@[simp] theorem Status.clearOutcome_err (st : Status) : st.clearOutcome.err = false := rfl
@[simp] theorem Status.clearOutcome_warn (st : Status) : st.clearOutcome.warn = st.warn := rfl
@[simp] theorem Status.clearOutcome_initd (st : Status) : st.clearOutcome.initd = st.initd := rfl
@[simp] theorem Status.clearOutcome_kv (st : Status) : st.clearOutcome.kv = st.kv := rfl
@[simp] theorem Status.clearOutcome_av (st : Status) : st.clearOutcome.av = st.av := rfl
@[simp] theorem Status.clearOutcome_rv (st : Status) : st.clearOutcome.rv = st.rv := rfl

/-! ### Status.fail -/

@[simp] theorem Status.fail_busy (st : Status) : st.fail.busy = false := rfl
@[simp] theorem Status.fail_done (st : Status) : st.fail.done = st.done := rfl
@[simp] theorem Status.fail_err (st : Status) : st.fail.err = true := rfl
@[simp] theorem Status.fail_warn (st : Status) : st.fail.warn = st.warn := rfl
@[simp] theorem Status.fail_initd (st : Status) : st.fail.initd = st.initd := rfl
@[simp] theorem Status.fail_kv (st : Status) : st.fail.kv = st.kv := rfl
@[simp] theorem Status.fail_av (st : Status) : st.fail.av = st.av := rfl
@[simp] theorem Status.fail_rv (st : Status) : st.fail.rv = st.rv := rfl

/-! ### Status.startInit -/

@[simp] theorem Status.startInit_busy (st : Status) : st.startInit.busy = true := rfl
@[simp] theorem Status.startInit_done (st : Status) : st.startInit.done = st.done := rfl
@[simp] theorem Status.startInit_err (st : Status) : st.startInit.err = st.err := rfl
@[simp] theorem Status.startInit_warn (st : Status) : st.startInit.warn = false := rfl
@[simp] theorem Status.startInit_initd (st : Status) : st.startInit.initd = st.initd := rfl
@[simp] theorem Status.startInit_kv (st : Status) : st.startInit.kv = st.kv := rfl
@[simp] theorem Status.startInit_av (st : Status) : st.startInit.av = st.av := rfl
@[simp] theorem Status.startInit_rv (st : Status) : st.startInit.rv = st.rv := rfl

/-! ### Status.startSend -/

@[simp] theorem Status.startSend_busy (st : Status) : st.startSend.busy = true := rfl
@[simp] theorem Status.startSend_done (st : Status) : st.startSend.done = st.done := rfl
@[simp] theorem Status.startSend_err (st : Status) : st.startSend.err = st.err := rfl
@[simp] theorem Status.startSend_warn (st : Status) : st.startSend.warn = st.warn := rfl
@[simp] theorem Status.startSend_initd (st : Status) : st.startSend.initd = st.initd := rfl
@[simp] theorem Status.startSend_kv (st : Status) : st.startSend.kv = st.kv := rfl
@[simp] theorem Status.startSend_av (st : Status) : st.startSend.av = st.av := rfl
@[simp] theorem Status.startSend_rv (st : Status) : st.startSend.rv = st.rv := rfl

/-! ### Status.endInit -/

@[simp] theorem Status.endInit_busy (st : Status) (m : Bool) : (st.endInit m).busy = false := rfl
@[simp] theorem Status.endInit_done (st : Status) (m : Bool) : (st.endInit m).done = true := rfl
@[simp] theorem Status.endInit_err (st : Status) (m : Bool) : (st.endInit m).err = st.err := rfl
@[simp] theorem Status.endInit_warn (st : Status) (m : Bool) : (st.endInit m).warn = m := rfl
@[simp] theorem Status.endInit_initd (st : Status) (m : Bool) : (st.endInit m).initd = true := rfl
@[simp] theorem Status.endInit_kv (st : Status) (m : Bool) : (st.endInit m).kv = st.kv := rfl
@[simp] theorem Status.endInit_av (st : Status) (m : Bool) : (st.endInit m).av = st.av := rfl
@[simp] theorem Status.endInit_rv (st : Status) (m : Bool) : (st.endInit m).rv = st.rv := rfl

/-! ### Status.endSend -/

@[simp] theorem Status.endSend_busy (st : Status) : st.endSend.busy = false := rfl
@[simp] theorem Status.endSend_done (st : Status) : st.endSend.done = true := rfl
@[simp] theorem Status.endSend_err (st : Status) : st.endSend.err = st.err := rfl
@[simp] theorem Status.endSend_warn (st : Status) : st.endSend.warn = st.warn := rfl
@[simp] theorem Status.endSend_initd (st : Status) : st.endSend.initd = st.initd := rfl
@[simp] theorem Status.endSend_kv (st : Status) : st.endSend.kv = st.kv := rfl
@[simp] theorem Status.endSend_av (st : Status) : st.endSend.av = st.av := rfl
@[simp] theorem Status.endSend_rv (st : Status) : st.endSend.rv = st.rv := rfl

end Sys2Proof.Machine
end

