-- ==== Sys2Proof/Laws/Ops.lean ====
section
/-!
SUPPORT. One lemma for each shared operation that says everything it can do, for proofs to cite instead of
unfolding it.
-/

namespace Sys2Proof.Machine

/-- At I3 a micro-step that did not raise ends INIT. -/
theorem State.proceed_at_i3 {s : State} (h : s.sp = .i3) : s.proceed = s.endInit := by
  simp [State.proceed, h]

/-- Anywhere else it moves SP and nothing more. -/
theorem State.proceed_elsewhere {s : State} (h : s.sp ≠ .i3) : s.proceed = { s with sp := s.sp.next s.cfg } := by
  unfold State.proceed
  split
  · contradiction
  · rfl

/-- SP after a micro-step that did not raise is the next position, at I3 as elsewhere. -/
@[simp] theorem State.proceed_sp (s : State) : s.proceed.sp = s.sp.next s.cfg := by
  by_cases h : s.sp = .i3
  · simp [State.proceed_at_i3 h, h, Pos.next]
  · simp [State.proceed_elsewhere h]

/-- What `proceed` never changes: everything but SP and STATUS. -/
@[simp] theorem State.proceed_cfg (s : State) : s.proceed.cfg = s.cfg := by unfold State.proceed; split <;> rfl
@[simp] theorem State.proceed_key (s : State) : s.proceed.key = s.key := by unfold State.proceed; split <;> rfl
@[simp] theorem State.proceed_addr (s : State) : s.proceed.addr = s.addr := by unfold State.proceed; split <;> rfl
@[simp] theorem State.proceed_rc (s : State) : s.proceed.rc = s.rc := by unfold State.proceed; split <;> rfl
@[simp] theorem State.proceed_errinfo (s : State) : s.proceed.errinfo = s.errinfo := by
  unfold State.proceed; split <;> rfl
@[simp] theorem State.proceed_latch (s : State) : s.proceed.latch = s.latch := by unfold State.proceed; split <;> rfl
@[simp] theorem State.proceed_bufs (s : State) : s.proceed.bufs = s.bufs := by unfold State.proceed; split <;> rfl
@[simp] theorem State.proceed_wt (s : State) : s.proceed.wt = s.wt := by unfold State.proceed; split <;> rfl
@[simp] theorem State.proceed_rdv (s : State) : s.proceed.rdv = s.rdv := by unfold State.proceed; split <;> rfl
@[simp] theorem State.proceed_dev (s : State) : s.proceed.dev = s.dev := by unfold State.proceed; split <;> rfl
@[simp] theorem State.proceed_out (s : State) : s.proceed.out = s.out := by unfold State.proceed; split <;> rfl
@[simp] theorem State.proceed_trace (s : State) : s.proceed.trace = s.trace := by unfold State.proceed; split <;> rfl
@[simp] theorem State.proceed_air (s : State) : s.proceed.air = s.air := by unfold State.proceed; split <;> rfl
@[simp] theorem State.proceed_hostData (s : State) : s.proceed.hostData = s.hostData := by
  unfold State.proceed; split <;> rfl
@[simp] theorem State.proceed_turns (s : State) : s.proceed.turns = s.turns := by unfold State.proceed; split <;> rfl
@[simp] theorem State.proceed_env (s : State) : s.proceed.env = s.env := by unfold State.proceed; split <;> rfl
@[simp] theorem State.proceed_drawn (s : State) : s.proceed.drawn = s.drawn := by unfold State.proceed; split <;> rfl

/-- Everything an exchange can do (R150, R151): nothing while the transport is silent, the error, or the return. -/
theorem State.exchange_cases (s : State) (op : BusOp) (use : List Byte → State → State) :
    (s.nextDraw.reply = .silent ∧ s.exchange op use = s.drawNext) ∨
    ((s.nextDraw.reply = .fail ∨
        ∃ resp, s.nextDraw.reply = .bytes resp ∧ resp.length ≠ (busRequest s.cfg op).length) ∧
      s.exchange op use = s.drawNext.exchangeFails op s.nextDraw) ∨
    (∃ resp, s.nextDraw.reply = .bytes resp ∧ resp.length = (busRequest s.cfg op).length ∧
      s.exchange op use = s.drawNext.exchangeReturns op s.nextDraw resp use) := by
  cases h : s.nextDraw.reply with
  | silent => exact .inl ⟨rfl, by simp [State.exchange, h]⟩
  | fail => exact .inr (.inl ⟨.inl rfl, by simp [State.exchange, h]⟩)
  | bytes resp =>
    by_cases hl : resp.length = (busRequest s.cfg op).length
    · exact .inr (.inr ⟨resp, rfl, hl, by simp [State.exchange, h, hl]⟩)
    · exact .inr (.inl ⟨.inr ⟨resp, rfl, hl⟩, by simp [State.exchange, h, hl]⟩)

/-- An exchange that is answered in full returns. -/
theorem State.exchange_returns {s : State} {op : BusOp} {use : List Byte → State → State} {resp : List Byte}
    (h : s.nextDraw.reply = .bytes resp) (hl : resp.length = (busRequest s.cfg op).length) :
    s.exchange op use = s.drawNext.exchangeReturns op s.nextDraw resp use := by
  simp [State.exchange, h, hl]

/-- A read value goes into RDV and nowhere else (R153); any other response is dropped (R154). -/
theorem use_response {use : List Byte → State → State} (h : use = dropResponse ∨ use = takeReadValue)
    (resp : List Byte) (s : State) : ∃ v, use resp s = { s with rdv := v } ∧ (use = dropResponse → v = s.rdv) := by
  rcases h with rfl | rfl
  · exact ⟨s.rdv, rfl, fun _ => rfl⟩
  · exact ⟨resp.getD 1 0, rfl, fun h => (congrArg (fun u => (u resp s).rdv) h)⟩

/-- The bits of STATUS the end of a micro-step leaves, and that it never takes INITD back. -/
@[simp] theorem State.proceed_kv (s : State) : s.proceed.status.kv = s.status.kv := by unfold State.proceed; split <;> rfl
@[simp] theorem State.proceed_av (s : State) : s.proceed.status.av = s.status.av := by unfold State.proceed; split <;> rfl
@[simp] theorem State.proceed_rv (s : State) : s.proceed.status.rv = s.status.rv := by unfold State.proceed; split <;> rfl
theorem State.proceed_initd {s : State} (h : s.status.initd = true) : s.proceed.status.initd = true := by
  unfold State.proceed; split
  · rfl
  · exact h

/-- Time never stands still. -/
theorem one_le_passes (d : Draw) : 1 ≤ d.passes := Nat.le_max_left 1 d.elapsed

/-- Everything one step of a wait can do: with `left` to pass (the duration if the wait begins, and then its event is added)
it ends when that much time passes, else it runs on. -/
theorem State.waitFor_cases (s : State) (t : Duration) :
    ∃ u left, u = (if s.wt = 0 then s.drawNext.log (.wait t) else s.drawNext) ∧
      left = (if s.wt = 0 then t.value s.cfg else s.wt) ∧
      ((left ≤ s.nextDraw.passes ∧
          s.waitFor t = ((if s.nextDraw.settled then u.deviceMoves else u).setTimer 0).proceed) ∨
        (s.nextDraw.passes < left ∧
          s.waitFor t = (if s.nextDraw.settled then u.deviceMoves else u).setTimer (left - s.nextDraw.passes))) := by
  refine ⟨_, _, rfl, rfl, ?_⟩
  by_cases hw : s.wt = 0 <;> cases hs : s.nextDraw.settled
  · by_cases hl : t.value s.cfg ≤ s.nextDraw.passes
    · exact .inl ⟨by simpa [hw] using hl, by simp [State.waitFor, State.passTime, hw, hs, hl]; rfl⟩
    · exact .inr ⟨by simpa [hw] using hl, by simp [State.waitFor, State.passTime, hw, hs, hl]; rfl⟩
  · by_cases hl : t.value s.cfg ≤ s.nextDraw.passes
    · exact .inl ⟨by simpa [hw] using hl, by simp [State.waitFor, State.passTime, hw, hs, hl]; rfl⟩
    · exact .inr ⟨by simpa [hw] using hl, by simp [State.waitFor, State.passTime, hw, hs, hl]; rfl⟩
  · by_cases hl : s.wt ≤ s.nextDraw.passes
    · exact .inl ⟨by simpa [hw] using hl, by simp [State.waitFor, State.passTime, hw, hs, hl]⟩
    · exact .inr ⟨by simpa [hw] using hl, by simp [State.waitFor, State.passTime, hw, hs, hl]⟩
  · by_cases hl : s.wt ≤ s.nextDraw.passes
    · exact .inl ⟨by simpa [hw] using hl, by simp [State.waitFor, State.passTime, hw, hs, hl]⟩
    · exact .inr ⟨by simpa [hw] using hl, by simp [State.waitFor, State.passTime, hw, hs, hl]⟩

/-- An OP write under BUSY is dropped whole (R37). -/
theorem State.writeOp_busy {s : State} (act : State → State) (h : s.status.busy = true) : s.writeOp act = s := by
  simp [State.writeOp, h]

/-- With BUSY = 0 the old outcome is cleared first (R190). -/
theorem State.writeOp_idle {s : State} (act : State → State) (h : s.status.busy = false) :
    s.writeOp act = act s.clearOutcome := by
  simp [State.writeOp, h]

/-- Everything the acceptance of INIT can do (R191). -/
theorem State.acceptInit_cases (s : State) :
    (s.status.initd = true ∧ s.acceptInit = s.refuseOp .reinit) ∨
    (s.status.initd = false ∧ s.acceptInit = { s with status := s.status.startInit, sp := .i0 }) := by
  cases h : s.status.initd <;> simp [State.acceptInit, h]

/-- Everything the acceptance of SEND can do (R191). -/
theorem State.acceptSend_cases (c : Nibble) (s : State) :
    (s.status.initd = false ∧ s.acceptSend c = s.refuseOp .noInit) ∨
    (s.status.initd = true ∧ s.status.identityValid = false ∧ s.acceptSend c = s.refuseOp .noId) ∨
    (s.status.initd = true ∧ s.status.identityValid = true ∧
      s.acceptSend c =
        { s with latch := ⟨s.key, s.addr, s.rc, c⟩, status := s.status.startSend, sp := .s0 }) := by
  cases h : s.status.initd <;> cases h' : s.status.identityValid <;> simp [State.acceptSend, h, h']

/-- What a step is, by the turn that is due (R9). -/
theorem step_sequencer {s : State} (h : s.turns = []) : step s = s.microStep := by
  simp [step, State.turn, h]

theorem step_turn {s : State} {t : Turn} {rest : List Turn} (h : s.turns = t :: rest) :
    step s = { s with turns := rest }.take t := by
  simp [step, State.turn, h]

/-- A micro-step at a position that performs exactly one operation is that operation (R198). -/
theorem State.microStep_of_microOp {s : State} {i : Instr} (h : s.microOp = some i) : s.microStep = exec i s := by
  unfold State.microStep
  split
  · rename_i h'; simp [State.microOp, h'] at h
  · rename_i h'; simp [State.microOp, h'] at h
  · rename_i h'; simp [State.microOp, h'] at h
  · simp [h]

/-- Everything a micro-step can be. -/
theorem State.microStep_cases (s : State) :
    (s.sp = .idle ∧ s.microStep = .next s) ∨
    (s.sp = .s0 ∧ s.microStep = s.buildAndCompose) ∨
    (s.sp = .s3 ∧ s.microStep = .next s.commit) ∨
    (∃ i, s.microOp = some i ∧ s.microStep = exec i s) ∨
    ((∃ j, s.sp = .i2 j ∧ s.cfg.params.nCfg ≤ j) ∧ s.microStep = .fault .notAPosition) := by
  cases h : s.microOp with
  | some i => exact .inr (.inr (.inr (.inl ⟨i, rfl, State.microStep_of_microOp h⟩)))
  | none =>
    cases hp : s.sp with
    | idle => exact .inl ⟨rfl, by simp [State.microStep, hp]⟩
    | s0 => exact .inr (.inl ⟨rfl, by simp [State.microStep, hp]⟩)
    | s3 => exact .inr (.inr (.inl ⟨rfl, by simp [State.microStep, hp]⟩))
    | i2 j =>
      refine .inr (.inr (.inr (.inr ⟨⟨j, rfl, ?_⟩, by simp [State.microStep, hp, h]⟩)))
      simp only [State.microOp, hp] at h
      split at h
      · cases h
      · rename_i h'; simpa [Params.nCfg] using h'
    | i0 => simp [State.microOp, hp] at h
    | i1 => simp [State.microOp, hp] at h
    | i3 => simp [State.microOp, hp] at h
    | s1 => simp [State.microOp, hp] at h
    | s2 => simp [State.microOp, hp] at h
    | fa k => simp [State.microOp, hp] at h
    | fb k => simp [State.microOp, hp] at h
    | fc k => simp [State.microOp, hp] at h
    | fd k => simp [State.microOp, hp] at h

/-- The bytes of a frame make the frame. -/
@[simp] theorem ofBytes_toBytes (f : Frame) : Frame.ofBytes f.toBytes = f := rfl

/-- The whole of position S0 (R193): it always answers, with the three buffers filled from the latched operands. -/
theorem State.buildAndCompose_eq (s : State) :
    s.buildAndCompose = .next (State.proceed { s with
      bufs := ⟨frameOf s.latch.key s.latch.cmd s.latch.rc s.latch.addr,
        encodeLine s.cfg (frameOf s.latch.key s.latch.cmd s.latch.rc s.latch.addr).toBytes,
        composeBuffer s.cfg (frameOf s.latch.key s.latch.cmd s.latch.rc s.latch.addr)⟩
      out := composeBuffer s.cfg (frameOf s.latch.key s.latch.cmd s.latch.rc s.latch.addr) }) := by
  simp only [State.buildAndCompose, andThen, exec, execBuild, execObf, execEncode, execCompose, State.deliver,
    State.storeFrame, State.storeLine, State.storeTxbuf, ofBytes_toBytes, frameOf]

end Sys2Proof.Machine
end

