-- ==== Sys2Proof/Laws/PerInstr.lean ====
section
/-!
SUPPORT. A statement for each operation as syntax: its word has the length R80 gives its format, and an
operation that no bit pattern selects has no word (R80, R94, R97).
-/

namespace Sys2Proof.Laws.WordLength

/-- The length of a word, in bits. -/
def bits : Encoding → Nat
  | .hostByte _ => 8
  | .request bytes => 8 * bytes.length
  | .frame f => 8 * f.toBytes.length

/-- The length of each operation's word (R80): H 8 bits, X1 8, X2W and X2R 16, XB `8 + 8 * n`, FR 56. -/
def width : Instr → Option Nat
  | .init => some 8
  | .sendStop => some 8
  | .sendUp => some 8
  | .sendDown => some 8
  | .sendProg => some 8
  | .sres => some 8
  | .sidle => some 8
  | .stx => some 8
  | .sftx => some 8
  | .wreg _ _ => some 16
  | .rreg _ => some 16
  | .burstw payload => some (8 + 8 * payload.length)
  | .stop _ _ _ => some 56
  | .up _ _ _ => some 56
  | .down _ _ _ => some 56
  | .prog _ _ _ => some 56
  | .cksum _ _ => none
  | .build _ _ _ _ => none
  | .obf _ => none
  | .deobf _ => none
  | .encode _ => none
  | .decode _ => none
  | .compose _ => none
  | .wait _ => none

/-- The word of the operation, under any configuration, has the length of its format. -/
def Statement (i : Instr) : Prop := ∀ cfg : Config, (encode cfg i).map bits = width i

theorem init : Statement .init := fun _ => rfl
theorem sendStop : Statement .sendStop := fun _ => rfl
theorem sendUp : Statement .sendUp := fun _ => rfl
theorem sendDown : Statement .sendDown := fun _ => rfl
theorem sendProg : Statement .sendProg := fun _ => rfl
theorem sres : Statement .sres := fun _ => rfl
theorem sidle : Statement .sidle := fun _ => rfl
theorem stx : Statement .stx := fun _ => rfl
theorem sftx : Statement .sftx := fun _ => rfl
theorem wreg (addr value : Byte) : Statement (.wreg addr value) := fun _ => rfl
theorem rreg (addr : Byte) : Statement (.rreg addr) := fun _ => rfl
theorem burstw (payload : List Byte) : Statement (.burstw payload) := fun cfg => by
  simp [encode, busRequest, bits, width]; omega
theorem stop (key : Byte) (rc : RollingCode) (addr : RemoteAddr) : Statement (.stop key rc addr) := fun _ => rfl
theorem up (key : Byte) (rc : RollingCode) (addr : RemoteAddr) : Statement (.up key rc addr) := fun _ => rfl
theorem down (key : Byte) (rc : RollingCode) (addr : RemoteAddr) : Statement (.down key rc addr) := fun _ => rfl
theorem prog (key : Byte) (rc : RollingCode) (addr : RemoteAddr) : Statement (.prog key rc addr) := fun _ => rfl
theorem cksum (c : Nibble) (rc : RollingCode) : Statement (.cksum c rc) := fun _ => rfl
theorem build (key : Byte) (c : Nibble) (rc : RollingCode) (addr : RemoteAddr) : Statement (.build key c rc addr) :=
  fun _ => rfl
theorem obf (p : Frame) : Statement (.obf p) := fun _ => rfl
theorem deobf (o : Frame) : Statement (.deobf o) := fun _ => rfl
theorem encode (bytes : List Byte) : Statement (.encode bytes) := fun _ => rfl
theorem decode (symbols : List Byte) : Statement (.decode symbols) := fun _ => rfl
theorem compose (f : Frame) : Statement (.compose f) := fun _ => rfl
theorem wait (t : Duration) : Statement (.wait t) := fun _ => rfl

end Sys2Proof.Laws.WordLength
end

