-- ==== Sys2Proof/Tests/Slice0.lean ====
section
/-!
SUPPORT. Tests. Expected values come from 95_test_vectors.md (vector V<n>, program P<n>) or are written out from the
rule named; the configuration is TestCfg. The second half shows, for each statement with hypotheses, values that meet them.
-/

namespace Sys2Proof.Tests

open Sys2Proof Sys2Proof.Machine

/-! ## The configuration (R6) -/

/-- TestCfg with other symbols, table, strobes or preamble. -/
def params (one : Byte) (table : List (Byte × Byte)) (sidle : Byte) (preamble : List Byte) : Params :=
  { Params.test with symOne := one, cfgTable := table, strobeSidle := sidle, preamble := preamble }

theorem test_config_accepted : (params 0xF0 [(0x02, 0x0D)] 0x36 [0xAA, 0x55]).problem = none := by decide
theorem test_config_equal_symbols : (params 0x0F [] 0x36 []).problem = some .symbolsEqual := by decide
theorem test_config_repeated_address :
    (params 0xF0 [(2, 0), (3, 0), (2, 1)] 0x36 []).problem = some .tableAddressRepeated := by decide
theorem test_config_reading_address : (params 0xF0 [(0x82, 0)] 0x36 []).problem = some .tableAddressReads := by decide
theorem test_config_equal_strobes : (params 0xF0 [] 0x30 []).problem = some .strobesEqual := by decide
theorem test_config_preamble : (params 0xF0 [] 0x36 [0xAA, 0xAB]).problem = some .preambleByte := by decide

/-! ## WellFormed: the ill-formed term of each check is refused -/

theorem test_wreg_address_with_the_read_flag_is_ill_formed : (Instr.wreg 0x82 0x0D).wellFormed Config.test = false := by decide
theorem test_wreg_address_without_it_is_well_formed : (Instr.wreg 0x7E 0x0D).wellFormed Config.test = true := by decide
/-- R142, below V47: seven symbol bytes, and an alien byte. -/
theorem test_decode_of_seven_symbols_is_ill_formed :
    (Instr.decode (List.replicate 7 0xF0)).wellFormed Config.test = false := by decide
theorem test_decode_of_an_alien_byte_is_ill_formed :
    (Instr.decode [0xF0, 0x0F, 0xAA, 0x0F, 0x0F, 0xF0, 0x0F, 0xF0]).wellFormed Config.test = false := by decide

/-! ## Decode: words written out from the tables of R81 to R86 -/

/-- What a word decodes to under TestCfg. -/
def reads (e : Encoding) : Option Instr := (decode Config.test e).toOption

theorem test_decode_init : reads (.hostByte 0b00010000) = some .init := by decide
theorem test_decode_send_stop : reads (.hostByte 0b00100001) = some .sendStop := by decide
theorem test_decode_send_up : reads (.hostByte 0b00100010) = some .sendUp := by decide
theorem test_decode_send_down : reads (.hostByte 0b00100100) = some .sendDown := by decide
theorem test_decode_send_prog : reads (.hostByte 0b00101000) = some .sendProg := by decide
/-- V60 to V63. -/
theorem test_decode_sres : reads (.request [0x30]) = some .sres := by decide
theorem test_decode_sidle : reads (.request [0x36]) = some .sidle := by decide
theorem test_decode_stx : reads (.request [0x35]) = some .stx := by decide
theorem test_decode_sftx : reads (.request [0x3B]) = some .sftx := by decide
/-- V65, V66, V69; R85 with a payload of two bytes. -/
theorem test_decode_wreg : reads (.request [0x12, 0x30]) = some (.wreg 0x12 0x30) := by decide
theorem test_decode_rreg : reads (.request [0xB1, 0x00]) = some (.rreg 0x31) := by decide
theorem test_decode_burstw : reads (.request [0x7F, 0xAA, 0xD3]) = some (.burstw [0xAA, 0xD3]) := by decide
theorem test_decode_empty_burstw : reads (.request [0x7F]) = some (.burstw []) := by decide
/-- V30, V31, V16, V33. -/
theorem test_decode_stop : reads (.frame ⟨0xA7, 0x10, 0x00, 0x01, 0x12, 0x34, 0x56⟩) = some (.stop 0xA7 1 0x123456) := by
  decide
theorem test_decode_up : reads (.frame ⟨0xA7, 0x23, 0x00, 0x01, 0x12, 0x34, 0x56⟩) = some (.up 0xA7 1 0x123456) := by decide
theorem test_decode_down :
    reads (.frame ⟨0x5C, 0x42, 0x12, 0x34, 0xAB, 0xCD, 0xEF⟩) = some (.down 0x5C 0x1234 0xABCDEF) := by decide
theorem test_decode_prog : reads (.frame ⟨0xA7, 0x89, 0x00, 0x01, 0x12, 0x34, 0x56⟩) = some (.prog 0xA7 1 0x123456) := by
  decide

/-- V81, V82, V84 to V86; a strobe, a read and a long request that are none; V19; the frame SRC1 sets aside. -/
theorem test_no_operation :
    decodeOp 0x00 = .error .badOp ∧ decodeOp 0x11 = .error .badOp ∧ decodeOp 0x20 = .error .badCommand ∧
    decodeOp 0x23 = .error .badCommand ∧ decodeOp 0x2F = .error .badCommand := by decide
theorem test_no_request :
    decodeRequest Config.test [] = .error .emptyRequest ∧ decodeRequest Config.test [0x31] = .error .unknownStrobe ∧
    decodeRequest Config.test [0xB1, 0x01] = .error .badRead ∧
    decodeRequest Config.test [0x30, 0x00, 0x00] = .error .unknownRequest := by decide
theorem test_no_frame :
    decodeFrame ⟨0x3C, 0x30, 0x01, 0x02, 0x00, 0xFF, 0x00⟩ = .error .badCommand ∧
    decodeFrame ⟨0xA7, 0x21, 0x00, 0x01, 0x12, 0x34, 0x56⟩ = .error .badChecksum := by decide

/-- The first byte of a table word is its low byte: V31 as 56 bits. -/
theorem test_table_word : decodeTableWord 56 0x563412010023A7 = some (.up 0xA7 1 0x123456) := by decide

/-! ## The Frame Codec -/

/-- V1, V3, V4, V9: the codes 1, 2, 4, 8. -/
theorem test_checksum :
    [0x1, 0x2, 0x4, 0x8].map (fun c => checksum c 0x0001) = [0x0, 0x3, 0x5, 0x9] ∧
    [0x1, 0x2, 0x4, 0x8].map (fun c => checksum c 0x000F) = [0xE, 0xD, 0xB, 0x7] ∧
    [0x1, 0x2, 0x4, 0x8].map (fun c => checksum c 0x00F0) = [0x1, 0x2, 0x4, 0x8] ∧
    [0x1, 0x2, 0x4, 0x8].map (fun c => checksum c 0x1234) = [0x7, 0x4, 0x2, 0xE] := by decide
/-- All sixteen codes at rolling code 1234 (below V12). -/
theorem test_checksum_of_every_code :
    (List.range 16).map (fun c => (checksum (BitVec.ofNat 4 c) 0x1234).toNat) =
      [0x6, 0x7, 0x4, 0x5, 0x2, 0x3, 0x0, 0x1, 0xE, 0xF, 0xC, 0xD, 0xA, 0xB, 0x8, 0x9] := by decide
/-- V16, V15, V19. -/
theorem test_build : buildFrame 0x5C 0x4 0x1234 0xABCDEF = ⟨0x5C, 0x42, 0x12, 0x34, 0xAB, 0xCD, 0xEF⟩ := by decide
theorem test_build_of_another_code : buildFrame 0x3C 0x3 0x0102 0x00FF00 = ⟨0x3C, 0x30, 0x01, 0x02, 0x00, 0xFF, 0x00⟩ := by
  decide
/-- V20, V24; V21, V24. -/
theorem test_obf : obfuscate ⟨0xA7, 0x23, 0x00, 0x01, 0x12, 0x34, 0x56⟩ = ⟨0xA7, 0x84, 0x84, 0x85, 0x97, 0xA3, 0xF5⟩ := by
  decide
theorem test_obf_of_counting_bytes : obfuscate ⟨1, 2, 3, 4, 5, 6, 7⟩ = ⟨1, 3, 0, 4, 1, 7, 0⟩ := by decide
theorem test_deobf : deobfuscate ⟨0xA7, 0x84, 0x84, 0x85, 0x97, 0xA3, 0xF5⟩ = ⟨0xA7, 0x23, 0x00, 0x01, 0x12, 0x34, 0x56⟩ := by
  decide
theorem test_deobf_of_counting_bytes : deobfuscate ⟨1, 2, 3, 4, 5, 6, 7⟩ = ⟨1, 3, 1, 7, 1, 3, 1⟩ := by decide

/-! ## Small states -/

/-- TestCfg, STATUS zero, the device idle and empty with identification 14, no turn, no draw listed. -/
def base : State :=
  { State.reset with
    cfg := Config.test
    bufs := ⟨⟨0, 0, 0, 0, 0, 0, 0⟩, List.replicate 56 0, List.replicate 61 0⟩
    dev := ⟨.idle, [], [], 0x14⟩ }

/-- An exchange answered with these bytes, or a wait of 100 ms in which the device moves. -/
def good (resp : List Byte) : Draw := ⟨.bytes resp, false, 100, true, .unknown, [], []⟩

/-- An exchange that fails; the device acted or not. -/
def bad (acted : Bool) : Draw := ⟨.fail, acted, 0, false, .unknown, [], []⟩

/-- At a position, with an operation running and one draw listed. -/
def at' (p : Pos) (d : Draw) : State :=
  { base with sp := p, env := [d], status := { base.status with busy := true } }

/-- After a successful INIT, with the valid bits given. -/
def ready (kv av rv : Bool) : State :=
  { base with
    key := 0xA7, addr := 0x123456, rc := 0x0001,
    status := { base.status with done := true, initd := true, kv := kv, av := av, rv := rv } }

/-- What a test looks at: STATUS, ERRINFO, SP. -/
def outcome (o : Host.Outcome State Fault Refusal) : Option (Byte × BitVec 16 × Pos) :=
  match o with
  | .next s => some (s.status.toByte, s.errinfo, s.sp)
  | .fault _ => none
  | .refused _ => none

/-- One thing of the next state. -/
def after {α : Type} (f : State → α) (o : Host.Outcome State Fault Refusal) : Option α :=
  match o with
  | .next s => some (f s)
  | .fault _ => none
  | .refused _ => none

/-- Not a stop. -/
def goesOn (o : Host.Outcome State Fault Refusal) : Bool := (after id o).isSome

/-! ## Pure functions as instructions -/

theorem test_exec_cksum : after State.out (exec (.cksum 0x2 0x0001) base) = some [0x03] := by decide
theorem test_exec_build :
    after State.out (exec (.build 0xA7 0x2 0x0100 0x123456) base) = some [0xA7, 0x23, 0x01, 0x00, 0x12, 0x34, 0x56] := by
  decide
/-- V30 to V33. -/
theorem test_exec_stop :
    after State.out (exec (.stop 0xA7 1 0x123456) base) = some [0xA7, 0xB7, 0xB7, 0xB6, 0xA4, 0x90, 0xC6] := by decide
theorem test_exec_up :
    after State.out (exec (.up 0xA7 1 0x123456) base) = some [0xA7, 0x84, 0x84, 0x85, 0x97, 0xA3, 0xF5] := by decide
theorem test_exec_down :
    after State.out (exec (.down 0xA7 1 0x123456) base) = some [0xA7, 0xE2, 0xE2, 0xE3, 0xF1, 0xC5, 0x93] := by decide
theorem test_exec_prog :
    after State.out (exec (.prog 0xA7 1 0x123456) base) = some [0xA7, 0x2E, 0x2E, 0x2F, 0x3D, 0x09, 0x5F] := by decide
/-- V26, V23. -/
theorem test_exec_obf :
    after State.out (exec (.obf ⟨0xFF, 0x88, 0xFF, 0xFF, 0xFF, 0xFF, 0xFF⟩) base) =
      some [0xFF, 0x77, 0x88, 0x77, 0x88, 0x77, 0x88] := by decide
theorem test_exec_deobf :
    after State.out (exec (.deobf ⟨0xFF, 0xFF, 0xFF, 0xFF, 0xFF, 0xFF, 0xFF⟩) base) = some [0xFF, 0, 0, 0, 0, 0, 0] := by decide
/-- V44, V40; V46, and the alien byte below V47. -/
theorem test_exec_encode :
    after State.out (exec (.encode [0x80, 0x01]) base) =
      some ([0xF0] ++ List.replicate 14 0x0F ++ [0xF0]) := by decide
theorem test_exec_encode_nothing : after State.out (exec (.encode []) base) = some [] := by decide
theorem test_exec_decode :
    after State.out (exec (.decode [0xF0, 0x0F, 0xF0, 0x0F, 0x0F, 0xF0, 0x0F, 0xF0]) base) = some [0xA5] := by decide
theorem test_exec_decode_outside :
    goesOn (exec (.decode [0xF0, 0x0F, 0xAA, 0x0F, 0x0F, 0xF0, 0x0F, 0xF0]) base) = false := by decide
/-- V51: 61 bytes, of which the first 13 and the last 8. -/
theorem test_exec_compose :
    after (fun s => (s.out.length, s.out.take 13, s.out.drop 53))
        (exec (.compose ⟨0xA7, 0x84, 0x84, 0x85, 0x97, 0xA3, 0xF5⟩) base) =
      some (61, [0xAA, 0xAA, 0xAA, 0xAA, 0xD3, 0xF0, 0x0F, 0xF0, 0x0F, 0x0F, 0xF0, 0xF0, 0xF0],
        [0xF0, 0xF0, 0xF0, 0xF0, 0x0F, 0xF0, 0x0F, 0xF0]) := by decide

/-! ## Host operations and host access -/

/-- V80, V89. -/
theorem test_exec_init : outcome (exec .init base) = some (0x01, 0x0000, .i0) := by decide
theorem test_exec_init_again : outcome (exec .init (ready false false false)) = some (0x14, 0x4000, .idle) := by decide
/-- V81, V82, V84, V85, V87, V88: from reset, by the byte. -/
theorem test_refusals_from_reset :
    outcome (base.writeOpByte 0x00) = some (0x04, 0x2000, .idle) ∧
    outcome (base.writeOpByte 0x11) = some (0x04, 0x2000, .idle) ∧
    outcome (base.writeOpByte 0x20) = some (0x04, 0x3000, .idle) ∧
    outcome (base.writeOpByte 0x23) = some (0x04, 0x3000, .idle) ∧
    outcome (base.writeOpByte 0x22) = some (0x04, 0x5000, .idle) := by decide
theorem test_exec_send_up_before_init :
    outcome (exec .sendUp { base with status := { base.status with kv := true, av := true, rv := true } }) =
      some (0xE4, 0x5000, .idle) := by decide
/-- V90, V91, V92; P2 step 2; P5 step 2. -/
theorem test_exec_send_stop_without_identity :
    outcome (exec .sendStop (ready false false false)) = some (0x14, 0x6000, .idle) := by decide
theorem test_exec_send_prog_without_code :
    outcome (exec .sendProg (ready true true false)) = some (0x74, 0x6000, .idle) := by decide
theorem test_exec_send_down : outcome (exec .sendDown (ready true true true)) = some (0xF1, 0x0000, .s0) := by decide
theorem test_exec_send_up_latches :
    after State.latch (exec .sendUp (ready true true true)) = some ⟨0xA7, 0x123456, 0x0001, 0x2⟩ := by decide
theorem test_exec_send_stop_latches :
    after State.latch (exec .sendStop (ready true true true)) = some ⟨0xA7, 0x123456, 0x0001, 0x1⟩ := by decide
theorem test_exec_send_prog_latches :
    after State.latch (exec .sendProg (ready true true true)) = some ⟨0xA7, 0x123456, 0x0001, 0x8⟩ := by decide
/-- P2 step 3 and R37: a write under BUSY is dropped, an OP write too. -/
theorem test_stray_write : after State.rc ((at' .s1 (good [0])).hostWrite 5 0x1234) = some 0 := by decide
theorem test_stray_op_write : outcome ((at' .s1 (good [0])).hostWrite 0 0x10) = some (0x01, 0x0000, .s1) := by decide
/-- P6 step 7: the writes set their bits and clear nothing. -/
theorem test_load_sets_the_valid_bits :
    after (fun s => (s.key, s.status.toByte)) (base.hostWrite 3 0xA7) = some (0xA7, 0x20) ∧
    after (fun s => (s.addr, s.status.toByte)) (base.hostWrite 4 0x123456) = some (0x123456, 0x40) ∧
    after (fun s => (s.rc, s.status.toByte)) (base.hostWrite 5 0xFFFF) = some (0xFFFF, 0x80) := by decide
/-- R25, R36, R51. -/
theorem test_reads :
    (List.range 8).map (fun n => ((ready true true true).hostRegister n).toNat) =
      [0, 0xF2, 0, 0xA7, 0x123456, 1, 0, 0] := by decide

/-! ## Bus micro-operations -/

/-- V60 to V63: the request, and the effect on the device (R165, R167, R168, R170). -/
theorem test_exec_sres :
    after (fun s => (s.trace, s.sp, s.dev.mode)) (exec .sres (at' .i0 (good [0x0F]))) =
      some ([.exchange [0x30] (.ok [0x0F])], .i1, .reset) := by decide
theorem test_exec_sidle :
    after (fun s => (s.trace, s.sp, s.dev.mode)) (exec .sidle { at' .s1 (good [0]) with dev := ⟨.transmit, [], [], 0x14⟩ }) =
      some ([.exchange [0x36] (.ok [0])], .s2, .idle) := by decide
theorem test_exec_sftx :
    after (fun s => (s.trace, s.sp, s.dev.fifo)) (exec .sftx { at' .s2 (good [0]) with dev := ⟨.idle, [], [1, 2], 0x14⟩ }) =
      some ([.exchange [0x3B] (.ok [0])], .fa 0, []) := by decide
theorem test_exec_stx :
    after (fun s => (s.trace, s.sp, s.air, s.dev)) (exec .stx { at' (.fb 3) (good [0]) with dev := ⟨.idle, [], [1, 2], 0x14⟩ }) =
      some ([.exchange [0x35] (.ok [0])], .fc 3, [[1, 2]], ⟨.transmit, [], [], 0x14⟩) := by decide
/-- V64, and an address between two that are listed. -/
theorem test_exec_wreg :
    after (fun s => (s.trace, s.sp, s.dev.regs)) (exec (.wreg 0x02 0x0D) (at' (.i2 2) (good [0, 0]))) =
      some ([.exchange [0x02, 0x0D] (.ok [0, 0])], .i3, [(2, 0x0D)]) := by decide
theorem test_exec_wreg_between :
    after (fun s => s.dev.regs)
        (exec (.wreg 0x08 0x32) { at' (.i2 1) (good [0, 0]) with dev := ⟨.idle, [(2, 0x0D), (0x12, 0x30)], [], 0x14⟩ }) =
      some [(2, 0x0D), (8, 0x32), (0x12, 0x30)] := by decide
/-- V66, with the end of INIT (P1); V67 and P4: another value sets WARN. -/
theorem test_exec_rreg :
    after (fun s => (s.trace, s.rdv, s.status.toByte, s.sp)) (exec (.rreg 0x31) (at' .i3 (good [0x0F, 0x14]))) =
      some ([.exchange [0xB1, 0x00] (.ok [0x0F, 0x14])], 0x14, 0x12, .idle) := by decide
theorem test_exec_rreg_of_another_device :
    after (fun s => (s.rdv, s.status.toByte))
        (exec (.rreg 0x31) { at' .i3 (good [0x14, 0x0F]) with dev := ⟨.idle, [], [], 0x0F⟩ }) =
      some (0x0F, 0x1A) := by decide
/-- V68 with a payload of two bytes. -/
theorem test_exec_burstw :
    after (fun s => (s.trace, s.sp, s.dev.fifo))
        (exec (.burstw [0xAA, 0xD3]) { at' (.fa 0) (good [0, 0, 0]) with dev := ⟨.idle, [], [9], 0x14⟩ }) =
      some ([.exchange [0x7F, 0xAA, 0xD3] (.ok [0, 0, 0])], .fb 0, [9, 0xAA, 0xD3]) := by decide
/-- A device off the good path becomes what is drawn (R173). -/
theorem test_exec_burstw_in_reset :
    after (fun s => s.dev.mode)
        (exec (.burstw []) { at' (.fa 0) (good [0]) with dev := ⟨.reset, [], [9], 0x14⟩ }) = some .unknown := by decide
/-- V71; P2: the gap follows every transmission but the ninth; R160: 99 ms are too short for 100. -/
theorem test_exec_wait :
    after (fun s => (s.trace, s.sp, s.wt, s.dev.mode))
        (exec (.wait .tx) { at' (.fc 7) (good []) with dev := ⟨.transmit, [], [], 0x14⟩ }) =
      some ([.wait .tx], .fd 7, 0, .idle) := by decide
theorem test_exec_wait_too_short :
    after (fun s => (s.trace, s.sp, s.wt))
        (exec (.wait .tx) (at' (.fc 8) ⟨.silent, false, 99, false, .unknown, [], []⟩)) =
      some ([.wait .tx], .fc 8, 1) := by decide

/-- R198: a wait in which no time is drawn still comes nearer its end. -/
theorem test_exec_wait_never_stands_still :
    after (fun s => (s.sp, s.wt)) (exec (.wait .gap) (at' (.fd 0) ⟨.silent, false, 0, false, .unknown, [], []⟩)) =
      some (.fd 0, 29) := by decide

/-- V100, V103, V104, V109, V110: the error of an abort, and STATUS. -/
theorem test_aborts_of_init :
    outcome (exec .sres (at' .i0 (bad true))) = some (0x04, 0x1100, .idle) ∧
    outcome (exec (.wreg 0x12 0x30) (at' (.i2 2) (bad false))) = some (0x04, 0x1202, .idle) ∧
    outcome (exec (.rreg 0x31) (at' .i3 (bad false))) = some (0x04, 0x1300, .idle) := by decide
theorem test_aborts_of_send :
    outcome (exec .sidle (at' .s1 (bad true))) = some (0x04, 0x1400, .idle) ∧
    outcome (exec .sftx (at' .s2 (bad true))) = some (0x04, 0x1500, .idle) ∧
    outcome (exec (.burstw []) (at' (.fa 2) (bad true))) = some (0x04, 0x1602, .idle) ∧
    outcome (exec .stx (at' (.fb 8) (bad true))) = some (0x04, 0x1608, .idle) := by decide
/-- Below V71: a response of another length counts as a failure. -/
theorem test_short_response : outcome (exec (.rreg 0x31) (at' .i3 (good [0x14]))) = some (0x04, 0x1300, .idle) := by decide
/-- P3: the failed strobe may have sent a third burst. -/
theorem test_failed_strobe_may_send :
    after State.air (exec .stx { at' (.fb 2) (bad true) with dev := ⟨.idle, [], [1], 0⟩ }) = some [[1]] ∧
    after State.air (exec .stx { at' (.fb 2) (bad false) with dev := ⟨.idle, [], [1], 0⟩ }) = some [] := by decide

/-! ## The sequencer -/

/-- Position S0 of P2: FRAME is V31, TXBUF has 61 bytes. -/
theorem test_build_step :
    after (fun s => (s.bufs.frame, s.bufs.line.length, s.bufs.txbuf.length, s.sp))
        (step { at' .s0 (good []) with latch := ⟨0xA7, 0x123456, 0x0001, 0x2⟩ }) =
      some (⟨0xA7, 0x84, 0x84, 0x85, 0x97, 0xA3, 0xF5⟩, 56, 61, .s1) := by decide
/-- P5: the rolling code wraps. -/
theorem test_commit_wraps :
    after (fun s => (s.rc, s.status.toByte, s.sp)) (step { at' .s3 (good []) with latch := ⟨0, 0, 0xFFFF, 0x1⟩ }) =
      some (0, 0x02, .idle) := by decide
/-- A table word placed after reset is what the next step performs (V80, V87). -/
theorem test_fetch_word :
    outcome (step (State.reset.withFetchWord 8 0x10)) = some (0x01, 0x0000, .i0) ∧
    outcome (step (State.reset.withFetchWord 8 0x22)) = some (0x04, 0x5000, .idle) := by decide

/-! ## Hypotheses that are met: words and pure functions -/

theorem test_meets_DecodeOfEncode :
    [Instr.sres, .wreg 0x02 0x0D, .rreg 0x31, .rreg 0x7E, .burstw [], .stop 0 0 0, .prog 0xFF 0xFFFF 0xFFFFFF].all
      (fun i => i.wellFormed Config.test && distinguishable Config.test i && (encode Config.test i).isSome) = true := by decide
theorem test_meets_EncodeOfDecode : decode Config.test (.request [0xB1, 0x00]) = .ok (.rreg 0x31) := by decide
/-- The bounds of the three clauses: 10, 28; 20, 2F; 00, 11, 1F, 30, FF. -/
theorem test_meets_OpBytesLegalOrRefused :
    base.status.busy = false ∧
    (∀ b ∈ [(0x20 : Byte), 0x2F], b.extractLsb' 4 4 = 0x2#4 ∧ b ≠ 0x21 ∧ b ≠ 0x22 ∧ b ≠ 0x24 ∧ b ≠ 0x28) ∧
    (∀ b ∈ [(0x00 : Byte), 0x0F, 0x11, 0x1F, 0x30, 0xFF], b.extractLsb' 4 4 ≠ 0x2#4 ∧ b ≠ 0x10) := by decide
theorem test_meets_CodecClosedForms :
    (⟨1, 2, 3, 4, 5, 6, 0x87⟩ : Frame).toBytes =
      (⟨1, 2, 3, 4, 5, 6, 7⟩ : Frame).toBytes.modify 6 (fun x => x ^^^ 0x80) ∧
    (⟨0x81, 2, 3, 4, 5, 6, 7⟩ : Frame).toBytes =
      (⟨1, 2, 3, 4, 5, 6, 7⟩ : Frame).toBytes.modify 0 (fun x => x ^^^ 0x80) := by decide
/-- The first and the last place: bit 7 of byte 0, bit 0 of byte 1 (V44). -/
theorem test_meets_EncodeDelivers :
    1 < [(0x80 : Byte), 0x01].length ∧ (encodeLine Config.test [0x80, 0x01])[0]? = some 0xF0 ∧
    (encodeLine Config.test [0x80, 0x01])[8 * 1 + (7 - 0)]? = some 0xF0 := by decide
theorem test_meets_LineCodeRoundTrips :
    inDecodeDomain Config.test [] = true ∧ inDecodeDomain Config.test (List.replicate 8 0x0F) = true := by decide
theorem test_meets_DecodeDeliversOrStops :
    (List.replicate 8 (0xF0 : Byte)).length % 8 = 0 ∧
    (∀ b ∈ List.replicate 8 (0xF0 : Byte), b = base.cfg.params.symOne ∨ b = base.cfg.params.symZero) ∧
    (List.replicate 9 (0xF0 : Byte)).length % 8 ≠ 0 ∧
    (∃ b ∈ List.replicate 8 (0xAA : Byte), b ≠ base.cfg.params.symOne ∧ b ≠ base.cfg.params.symZero) := by decide

/-! ## Hypotheses that are met: host operations and host access -/

theorem test_meets_InitStarts : base.status.busy = false ∧ base.status.initd = false := by decide
theorem test_meets_InitRefusedOnceInitialised :
    (ready true true true).status.busy = false ∧ (ready true true true).status.initd = true := by decide
theorem test_meets_SendStarts :
    (Instr.sendStop, (0x1 : Nibble)) ∈ sends ∧ (Instr.sendUp, (0x2 : Nibble)) ∈ sends ∧
    (Instr.sendDown, (0x4 : Nibble)) ∈ sends ∧ (Instr.sendProg, (0x8 : Nibble)) ∈ sends ∧
    (ready true true true).status.busy = false ∧ (ready true true true).status.initd = true ∧
    (ready true true true).status.kv = true ∧ (ready true true true).status.av = true ∧
    (ready true true true).status.rv = true := by decide
/-- Before INIT; after it with each one of the three missing. -/
theorem test_meets_SendRefused :
    (Instr.sendUp, (0x2 : Nibble)) ∈ sends ∧ base.status.busy = false ∧ base.status.initd = false ∧
    (ready false true true).status.initd = true ∧ (ready false true true).status.kv = false ∧
    (ready true false true).status.av = false ∧ (ready true true false).status.rv = false := by decide
theorem test_meets_HostWrites : (at' .s1 (good [0])).status.busy = true ∧ base.status.busy = false := by decide
/-- The write clause at its bounds, and the first number above 5. -/
theorem test_meets_HostReads :
    (after State.hostData (base.hostActs (.read 6)) = some 0) ∧
    goesOn (base.hostActs (.write 1 0xFF)) = true ∧ goesOn (base.hostActs (.write 2 0xFF)) = true ∧
    goesOn (base.hostActs (.write 6 0xFF)) = true := by decide
/-- The last clause has a case: an accepted INIT clears a WARN. -/
theorem test_meets_OpWriteMakesNoExchange :
    after (fun s => (s.status.warn, s.sp)) ({ base with status := { base.status with warn := true } }.writeOpByte 0x10) =
      some (false, .i0) := by decide

/-! ## Hypotheses that are met: micro-operations -/

theorem test_meets_the_strobes : (at' .i0 (good [0x5A])).nextDraw.reply = .bytes [0x5A] := by decide
theorem test_meets_WregCompletes_and_RregCompletes :
    (at' .i3 (good [0x5A, 0xA5])).nextDraw.reply = .bytes [0x5A, 0xA5] := by decide
theorem test_meets_BurstwCompletes :
    (at' (.fa 0) (good [1, 2, 3])).nextDraw.reply = .bytes [1, 2, 3] ∧
    [(1 : Byte), 2, 3].length = [(0xAA : Byte), 0xD3].length + 1 := by decide
/-- A wait that begins and one that runs on; just long enough and one millisecond short. -/
theorem test_meets_WaitCompletes :
    (at' .i1 (good [])).wt = 0 ∧ Duration.settle.value base.cfg ≤ (at' .i1 (good [])).nextDraw.elapsed ∧
    { at' .i1 (good []) with wt := 101 }.nextDraw.elapsed < { at' .i1 (good []) with wt := 101 }.wt := by decide
theorem test_meets_FailedExchangeAborts :
    failing (busRequest Config.test .sres) (at' .i0 (bad true)).nextDraw = true ∧
    failing (busRequest Config.test (.rreg 0x31)) (at' .i3 (good [0x14])).nextDraw = true := by decide
theorem test_meets_SilentTransportKeepsThePosition :
    (at' .i0 ⟨.silent, false, 0, false, .unknown, [], []⟩).nextDraw.reply = .silent := by decide
/-- The first and the last index (R222). -/
theorem test_meets_AbortRecordNamesThePosition :
    (errorWord .transport (Pos.i2 0).phase (Pos.i2 0).index).toNat = 0x1200 ∧
    (errorWord .transport (Pos.i2 255).phase (Pos.i2 255).index).toNat = 0x12FF := by decide

/-! ## Hypotheses that are met: the sequencer and the whole machine -/

theorem test_meets_PositionsFollowTheMicroprogram : (at' .s1 (good [0])).sp ≠ .i3 := by decide
theorem test_meets_StepPerformsTheOperationDue :
    (at' .i0 (good [0])).turns = [] ∧ (at' .i0 (good [0])).microOp = some .sres ∧
    { at' .i0 (good [0]) with turns := [.sequencer] }.turns = [.sequencer] ∧
    { base with turns := [.host (.write 0 0x10)] }.turns = [.host (.write 0 0x10)] ∧
    decodeOp ((0x10 : BitVec 24).setWidth 8) = .ok .init ∧ base.turns = [] ∧ base.sp = .idle := by decide
theorem test_meets_BuildStepFillsTheBuffers : (at' .s0 (good [])).turns = [] ∧ (at' .s0 (good [])).sp = .s0 := by decide
theorem test_meets_InitEnds :
    (at' .i3 (good [0, 0x14])).turns = [] ∧ (at' .i3 (good [0, 0x14])).sp = .i3 ∧
    (at' .i3 (good [0, 0x14])).nextDraw.reply = .bytes [0, 0x14] ∧ (at' .i3 (good [0, 0x14])).dev.mode = .idle := by decide
theorem test_meets_CommitAdvancesTheRollingCode : (at' .s3 (good [])).turns = [] ∧ (at' .s3 (good [])).sp = .s3 := by decide
theorem test_meets_OnlyCommitWritesTheRollingCode :
    goesOn (at' .s2 (good [0])).microStep = true ∧ (at' .s2 (good [0])).sp ≠ .s3 := by decide
theorem test_meets_OperationsKeepTheRegisters :
    goesOn (exec .init base) = true ∧ goesOn (exec .sres (at' .i0 (good [0]))) = true ∧
    goesOn (exec (.cksum 0 0) base) = true := by decide
theorem test_meets_OnlyWregStores :
    goesOn (exec (.wreg 0x02 0x0D) (at' (.i2 0) (good [0, 0]))) = true ∧ (at' (.i2 0) (good [0, 0])).dev.mode = .idle := by
  decide
theorem test_meets_BlockResetStep : { base with turns := [.reset] }.turns = [.reset] := by decide
theorem test_meets_DeviceMovesByItself :
    (∀ m ∈ [DevMode.reset, .transmit, .idle, .unknown],
      { base with turns := [.device], dev := ⟨m, [], [], 0⟩ }.turns = [.device] ∧
      { base with turns := [.device], dev := ⟨m, [], [], 0⟩ }.dev.mode = m) := by decide

/-- A state in a SEND, at a position, with draws listed. -/
def sendingAt (p : Pos) (env : List Draw) : State :=
  { base with
    sp := p, env := env, key := 0xA7, addr := 0x123456, rc := 0x0001, latch := ⟨0xA7, 0x123456, 0x0001, 0x2⟩
    status := ⟨true, false, false, false, true, true, true, true⟩
    bufs := ⟨frameOf 0xA7 0x2 0x0001 0x123456, encodeLine Config.test (frameOf 0xA7 0x2 0x0001 0x123456).toBytes,
      composeBuffer Config.test (frameOf 0xA7 0x2 0x0001 0x123456)⟩ }

/-- In the middle of a SEND. -/
def sending : State := sendingAt .s1 [good [0]]

/-- The transport says nothing yet. -/
def silent : Draw := ⟨.silent, false, 0, false, .unknown, [], []⟩

theorem test_inv_of_base : Inv base where
  busyAtPosition := by decide
  busyNotDone := by decide
  busyNotErr := by decide
  doneNotErr := by decide
  errorRecord := rfl
  tableIndex := fun _ h => nomatch h
  timer := by decide
  registers := by decide
  lineLength := by decide
  txbufLength := by decide
  initRuns := by decide
  sendRuns := by decide
  latched := by decide
  composed := by decide
  doneAfterInit := by decide
  warnAfterInit := by decide

theorem test_inv_of_sendingAt {p : Pos} (env : List Draw) (h : p.inSend = true) : Inv (sendingAt p env) where
  busyAtPosition := ⟨fun _ => (by rintro (rfl : p = .idle); cases h), fun _ => rfl⟩
  busyNotDone := by simp [sendingAt]
  busyNotErr := by simp [sendingAt]
  doneNotErr := by simp [sendingAt]
  errorRecord := rfl
  tableIndex := fun _ (hp : p = _) => by rw [hp] at h; cases h
  timer := fun hw => absurd rfl hw
  registers := rfl
  lineLength := rfl
  txbufLength := rfl
  initRuns := fun (hi : p.inInit = true) => by cases p <;> simp [Pos.inSend, Pos.inInit] at h hi
  sendRuns := fun _ => ⟨rfl, rfl⟩
  latched := fun _ => ⟨rfl, rfl, rfl, rfl⟩
  composed := fun _ _ => rfl
  doneAfterInit := fun _ => rfl
  warnAfterInit := fun _ => rfl

theorem test_inv_of_sending : Inv sending := test_inv_of_sendingAt _ rfl

theorem test_meets_StepKeepsInv_and_InvStateSteps : Inv sending ∧ goesOn (step sending) = true :=
  ⟨test_inv_of_sending, by decide⟩
theorem test_meets_ConfigurationAndPastStay : goesOn (step (at' .i0 (good [0]))) = true := by decide
theorem test_meets_OnlyResetClearsValidBits :
    goesOn (step sending) = true ∧ (∀ rest, sending.turns ≠ .reset :: rest) ∧ sending.status.kv = true ∧
    sending.status.av = true ∧ sending.status.rv = true ∧ sending.status.initd = true :=
  ⟨by decide, nofun, by decide⟩
theorem test_meets_BlockDoesNotSeeTheDevice : sending.sp ≠ .i3 ∧ goesOn (step sending) = true := by decide

/-- A silent and an answered exchange, and a wait in which no time is drawn. -/
theorem test_meets_MicroStepsCountDown :
    (Inv (sendingAt .s1 [silent]) ∧ Pos.s1.isExchange = true ∧ speaks (sendingAt .s1 [silent]).nextDraw = false ∧
      goesOn (sendingAt .s1 [silent]).microStep = true) ∧
    (Inv sending ∧ sending.sp ≠ .idle ∧ speaks sending.nextDraw = true ∧ goesOn sending.microStep = true) ∧
    (Inv (sendingAt (.fc 8) [silent]) ∧ (Pos.fc 8).isExchange = false ∧
      after stepsLeft (sendingAt (.fc 8) [silent]).microStep = some 100 ∧ stepsLeft (sendingAt (.fc 8) [silent]) = 101) :=
  ⟨⟨test_inv_of_sendingAt _ rfl, by decide⟩, ⟨test_inv_of_sending, by decide⟩, test_inv_of_sendingAt _ rfl, by decide⟩

/-- The last strobe of a SEND, first unanswered: 102 steps at most are left, and as many draws speak. -/
theorem test_meets_OperationsEnd :
    Inv (sendingAt (.fb 8) (silent :: List.replicate 102 (good [0]))) ∧
    (sendingAt (.fb 8) (silent :: List.replicate 102 (good [0]))).turns = [] ∧
    stepsLeft (sendingAt (.fb 8) (silent :: List.replicate 102 (good [0]))) ≤
      ((sendingAt (.fb 8) (silent :: List.replicate 102 (good [0]))).env.filter speaks).length :=
  ⟨test_inv_of_sendingAt _ rfl, rfl, by decide⟩

/-- One good draw for each operation of a program. -/
def goodRun (cfg : Config) (program : List Instr) : List Draw :=
  program.map fun i =>
    match i with
    | .wreg _ _ => good [0, 0]
    | .rreg _ => good [0, 0]
    | .burstw payload => good (List.replicate (payload.length + 1) 0)
    | .wait t => ⟨.silent, false, t.value cfg, true, .unknown, [], []⟩
    | _ => good [0]

/-- P1 at I0, the device in a mode nothing is known of, every draw listed. -/
def bringUp : State :=
  { at' .i0 (good []) with env := goodRun Config.test (initProgram Config.test), dev := ⟨.unknown, [], [], 0x14⟩ }

theorem test_meets_BringUpRuns :
    bringUp.turns = [] ∧ bringUp.sp = .i0 ∧ bringUp.wt = 0 ∧
    bringUp.env = goodRun bringUp.cfg (initProgram bringUp.cfg) ++ [] ∧
    goodDraws bringUp.cfg (initProgram bringUp.cfg) (goodRun bringUp.cfg (initProgram bringUp.cfg)) = true := by decide

/-- The send of P2, at S0, every draw listed. -/
def p2Program : List Instr := sendProgram (composeBuffer Config.test (frameOf 0xA7 0x2 0x0001 0x123456))

def p2Start : State := sendingAt .s0 (goodRun Config.test p2Program)

theorem test_meets_SendTransmitsNineTimesThenCommits :
    p2Start.turns = [] ∧ p2Start.sp = .s0 ∧ p2Start.wt = 0 ∧ (p2Start.dev.mode = .idle ∨ p2Start.dev.mode = .transmit) ∧
    p2Start.env = goodRun Config.test p2Program ++ [] ∧
    goodDraws p2Start.cfg (sendProgram (composeBuffer p2Start.cfg p2Start.latchedFrame))
      (goodRun Config.test p2Program) = true := by decide

end Sys2Proof.Tests
end

section
/-!
SUPPORT. The scope of one step (00_scope.md R9, R10): which operation it performs, and what no step takes back.
-/

namespace Sys2Proof.Machine

/-! ## The operation due -/

/-- Which operation SP is at does not depend on the turns still listed. -/
@[simp] theorem State.microOp_withTurns (s : State) (rest : List Turn) :
    State.microOp { s with turns := rest } = s.microOp := rfl

/-- At IDLE the sequencer waits for a command (R198). -/
theorem State.microStep_at_idle {s : State} (h : s.sp = .idle) : s.microStep = .next s := by
  simp [State.microStep, h]

/-- A byte that is an operation's is performed as that operation (R190). -/
theorem State.writeOpByte_of_decodeOp {b : Byte} {i : Instr} (h : decodeOp b = .ok i) (s : State) :
    s.writeOpByte b = exec i s := by
  simp [State.writeOpByte, h]

/-- A byte that is no operation's is refused (R191 check 1). -/
theorem State.writeOpByte_of_decodeOp_error {b : Byte} {e : DecodeError} (h : decodeOp b = .error e) (s : State) :
    s.writeOpByte b = .next (s.writeOp fun u => u.refuseOp (refusalOf e)) := by
  simp [State.writeOpByte, h]

/-- A host turn is the host's action (R9). -/
theorem step_host {s : State} {a : HostAction} {rest : List Turn} (h : s.turns = .host a :: rest) :
    step s = State.hostActs { s with turns := rest } a := step_turn h

/-- Settles O38: the turn due decides between SP's operation, the OP byte's, and the host's action. -/
theorem stepPerformsTheOperationDue : Obligations.StepPerformsTheOperationDue := by
  unfold Obligations.StepPerformsTheOperationDue
  refine ⟨?noTurn, ?sequencerTurn, ?opWrite, ?hostTurn, ?idle⟩
  case noTurn =>
    intro s i hturns hop
    rw [step_sequencer hturns, State.microStep_of_microOp hop]
  case sequencerTurn =>
    intro s i rest hturns hop
    rw [step_turn hturns]
    exact State.microStep_of_microOp (by simpa using hop)
  case opWrite =>
    intro s v i rest hturns hdecode
    rw [step_host hturns]
    exact State.writeOpByte_of_decodeOp hdecode _
  case hostTurn => exact fun _ _ _ => step_host
  case idle =>
    intro s hturns hsp
    rw [step_sequencer hturns, State.microStep_at_idle hsp]

/-! ## What an operation can be -/

/-- Everything an operation that goes on can be: an exchange, a wait, a host operation, or a value delivered. -/
theorem exec_cases {i : Instr} {s t : State} (h : exec i s = .next t) :
    (∃ op use, (use = dropResponse ∨ use = takeReadValue) ∧ t = s.exchange op use) ∨
    (∃ d, i = .wait d ∧ t = s.waitFor d) ∨
    (i = .init ∧ t = s.writeOp State.acceptInit) ∨
    (∃ c, t = s.writeOp (State.acceptSend c)) ∨
    (∃ bytes, t = s.deliver bytes) := by
  cases i with
  | init => cases h; exact .inr (.inr (.inl ⟨rfl, rfl⟩))
  | sendStop => cases h; exact .inr (.inr (.inr (.inl ⟨_, rfl⟩)))
  | sendUp => cases h; exact .inr (.inr (.inr (.inl ⟨_, rfl⟩)))
  | sendDown => cases h; exact .inr (.inr (.inr (.inl ⟨_, rfl⟩)))
  | sendProg => cases h; exact .inr (.inr (.inr (.inl ⟨_, rfl⟩)))
  | sres => cases h; exact .inl ⟨_, _, .inl rfl, rfl⟩
  | sidle => cases h; exact .inl ⟨_, _, .inl rfl, rfl⟩
  | stx => cases h; exact .inl ⟨_, _, .inl rfl, rfl⟩
  | sftx => cases h; exact .inl ⟨_, _, .inl rfl, rfl⟩
  | wreg addr value => cases h; exact .inl ⟨_, _, .inl rfl, rfl⟩
  | rreg addr => cases h; exact .inl ⟨_, _, .inr rfl, rfl⟩
  | burstw payload => cases h; exact .inl ⟨_, _, .inl rfl, rfl⟩
  | stop key rc addr => cases h; exact .inr (.inr (.inr (.inr ⟨_, rfl⟩)))
  | up key rc addr => cases h; exact .inr (.inr (.inr (.inr ⟨_, rfl⟩)))
  | down key rc addr => cases h; exact .inr (.inr (.inr (.inr ⟨_, rfl⟩)))
  | prog key rc addr => cases h; exact .inr (.inr (.inr (.inr ⟨_, rfl⟩)))
  | cksum c rc => cases h; exact .inr (.inr (.inr (.inr ⟨_, rfl⟩)))
  | build key c rc addr => cases h; exact .inr (.inr (.inr (.inr ⟨_, rfl⟩)))
  | obf p => cases h; exact .inr (.inr (.inr (.inr ⟨_, rfl⟩)))
  | deobf o => cases h; exact .inr (.inr (.inr (.inr ⟨_, rfl⟩)))
  | encode bytes => cases h; exact .inr (.inr (.inr (.inr ⟨_, rfl⟩)))
  | decode symbols =>
    by_cases hd : inDecodeDomain s.cfg symbols
    · simp only [exec, execDecode, hd, if_true, Host.Outcome.next.injEq] at h
      exact .inr (.inr (.inr (.inr ⟨_, h.symm⟩)))
    · simp [exec, execDecode, hd] at h
  | compose f => cases h; exact .inr (.inr (.inr (.inr ⟨_, rfl⟩)))
  | wait d => cases h; exact .inr (.inl ⟨d, rfl, rfl⟩)

/-! ## What no step takes back -/

/-- The later state has the same configuration and identification, and the earlier one's events first (R10, R35, R69). -/
structure State.KeepsPast (s t : State) : Prop where
  cfg : t.cfg = s.cfg
  devId : t.dev.id = s.dev.id
  trace : s.trace <+: t.trace
  air : s.air <+: t.air

namespace State.KeepsPast

/-- Nothing of it changed. -/
theorem of_eq {s t : State} (hcfg : t.cfg = s.cfg) (hid : t.dev.id = s.dev.id) (htrace : t.trace = s.trace)
    (hair : t.air = s.air) : s.KeepsPast t :=
  ⟨hcfg, hid, htrace ▸ List.prefix_refl _, hair ▸ List.prefix_refl _⟩

theorem refl (s : State) : s.KeepsPast s := of_eq rfl rfl rfl rfl

theorem trans {s t u : State} (hst : s.KeepsPast t) (htu : t.KeepsPast u) : s.KeepsPast u :=
  ⟨htu.cfg.trans hst.cfg, htu.devId.trans hst.devId, hst.trace.trans htu.trace, hst.air.trans htu.air⟩

theorem drawNext (s : State) : s.KeepsPast s.drawNext := of_eq rfl rfl rfl rfl

theorem log (s : State) (e : Event) : s.KeepsPast (s.log e) :=
  ⟨rfl, rfl, List.prefix_append _ _, List.prefix_refl _⟩

/-- The device's effect may add to the air, and keeps the identification (R175). -/
theorem deviceActs (s : State) (op : BusOp) (d : Draw) : s.KeepsPast (s.deviceActs op d) :=
  ⟨rfl, by simp, List.prefix_refl _, List.prefix_append _ _⟩

theorem deviceMoves (s : State) : s.KeepsPast s.deviceMoves := of_eq rfl (by simp) rfl rfl

theorem setTimer (s : State) (n : Nat) : s.KeepsPast (s.setTimer n) := of_eq rfl rfl rfl rfl

theorem proceed (s : State) : s.KeepsPast s.proceed := of_eq (by simp) (by simp) (by simp) (by simp)

theorem refuseOp (s : State) (k : Kind) : s.KeepsPast (s.refuseOp k) := of_eq rfl rfl rfl rfl

theorem blockReset (s : State) : s.KeepsPast s.blockReset := of_eq rfl rfl rfl rfl

/-! ### The exchange and the wait -/

theorem exchangeFails (s : State) (op : BusOp) (d : Draw) : s.KeepsPast (s.exchangeFails op d) := by
  have hdevice : s.KeepsPast (if d.acted then s.deviceActs op d else s) := by
    split
    · exact deviceActs s op d
    · exact refl s
  exact (hdevice.trans (log _ _)).trans (of_eq rfl rfl rfl rfl)

theorem exchangeReturns {use : List Byte → State → State} (huse : use = dropResponse ∨ use = takeReadValue)
    (s : State) (op : BusOp) (d : Draw) (resp : List Byte) : s.KeepsPast (s.exchangeReturns op d resp use) := by
  have hused (bytes : List Byte) (u : State) : u.KeepsPast (use bytes u) := by
    obtain ⟨v, hv, -⟩ := use_response huse bytes u
    rw [hv]
    exact of_eq rfl rfl rfl rfl
  exact ((deviceActs s op d).trans (log _ _)).trans ((hused _ _).trans (proceed _))

theorem exchange {use : List Byte → State → State} (huse : use = dropResponse ∨ use = takeReadValue)
    (s : State) (op : BusOp) : s.KeepsPast (s.exchange op use) := by
  obtain ⟨-, h⟩ | ⟨-, h⟩ | ⟨resp, -, -, h⟩ := s.exchange_cases op use <;> rw [h]
  · exact drawNext s
  · exact (drawNext s).trans (exchangeFails _ _ _)
  · exact (drawNext s).trans (exchangeReturns huse _ _ _ _)

theorem waitFor (s : State) (d : Duration) : s.KeepsPast (s.waitFor d) := by
  obtain ⟨u, left, hu, -, hcases⟩ := s.waitFor_cases d
  have hbegun : s.KeepsPast u := by
    rw [hu]
    split
    · exact (drawNext s).trans (log _ _)
    · exact drawNext s
  have hmoved : s.KeepsPast (if s.nextDraw.settled then u.deviceMoves else u) := by
    split
    · exact hbegun.trans (deviceMoves u)
    · exact hbegun
  obtain ⟨-, h⟩ | ⟨-, h⟩ := hcases <;> rw [h]
  · exact (hmoved.trans (setTimer _ _)).trans (proceed _)
  · exact hmoved.trans (setTimer _ _)

/-! ### The host's operations -/

theorem writeOp {act : State → State} (hact : ∀ u : State, u.KeepsPast (act u)) (s : State) :
    s.KeepsPast (s.writeOp act) := by
  cases hbusy : s.status.busy with
  | true =>
    rw [State.writeOp_busy act hbusy]
    exact refl s
  | false =>
    rw [State.writeOp_idle act hbusy]
    exact (of_eq rfl rfl rfl rfl : s.KeepsPast s.clearOutcome).trans (hact _)

theorem acceptInit (s : State) : s.KeepsPast s.acceptInit := by
  obtain ⟨-, h⟩ | ⟨-, h⟩ := s.acceptInit_cases <;> rw [h]
  · exact refuseOp s _
  · exact of_eq rfl rfl rfl rfl

theorem acceptSend (c : Nibble) (s : State) : s.KeepsPast (s.acceptSend c) := by
  obtain ⟨-, h⟩ | ⟨-, -, h⟩ | ⟨-, -, h⟩ := s.acceptSend_cases c <;> rw [h]
  · exact refuseOp s _
  · exact refuseOp s _
  · exact of_eq rfl rfl rfl rfl

/-- No operation takes back the past. -/
theorem exec {i : Instr} {s t : State} (h : exec i s = .next t) : s.KeepsPast t := by
  obtain ⟨op, use, huse, rfl⟩ | ⟨d, -, rfl⟩ | ⟨-, rfl⟩ | ⟨c, rfl⟩ | ⟨bytes, rfl⟩ := exec_cases h
  · exact exchange huse s op
  · exact waitFor s d
  · exact writeOp acceptInit s
  · exact writeOp (acceptSend c) s
  · exact of_eq rfl rfl rfl rfl

/-! ### The turns -/

theorem writeOpByte {s t : State} {b : Byte} (h : s.writeOpByte b = .next t) : s.KeepsPast t := by
  cases hdecode : decodeOp b with
  | ok i => exact exec (State.writeOpByte_of_decodeOp hdecode s ▸ h)
  | error e =>
    rw [State.writeOpByte_of_decodeOp_error hdecode, Host.Outcome.next.injEq] at h
    exact h ▸ writeOp (fun u => refuseOp u _) s

/-- A write to a register of the identity changes that register and its valid bit, or under BUSY nothing. -/
theorem writeKey (s : State) (v : Byte) : s.KeepsPast (s.writeKey v) := by
  unfold State.writeKey
  split <;> exact of_eq rfl rfl rfl rfl

theorem writeAddr (s : State) (v : RemoteAddr) : s.KeepsPast (s.writeAddr v) := by
  unfold State.writeAddr
  split <;> exact of_eq rfl rfl rfl rfl

theorem writeRc (s : State) (v : RollingCode) : s.KeepsPast (s.writeRc v) := by
  unfold State.writeRc
  split <;> exact of_eq rfl rfl rfl rfl

theorem hostWrite {s t : State} {n : Nat} {v : BitVec 24} (h : s.hostWrite n v = .next t) : s.KeepsPast t := by
  unfold State.hostWrite at h
  split at h
  · exact writeOpByte h
  · cases h; exact writeKey s _
  · cases h; exact writeAddr s _
  · cases h; exact writeRc s _
  · cases h; exact refl s

theorem microStep {s t : State} (h : s.microStep = .next t) : s.KeepsPast t := by
  obtain ⟨-, hm⟩ | ⟨-, hm⟩ | ⟨-, hm⟩ | ⟨i, -, hm⟩ | ⟨-, hm⟩ := s.microStep_cases <;> rw [hm] at h
  · cases h; exact refl s
  · rw [State.buildAndCompose_eq] at h
    cases h
    refine trans ?_ (proceed _)
    exact of_eq rfl rfl rfl rfl
  · cases h; exact of_eq rfl rfl rfl rfl
  · exact exec h
  · cases h

theorem take {s t : State} {turn : Turn} (h : s.take turn = .next t) : s.KeepsPast t := by
  cases turn with
  | host a =>
    cases a with
    | read n => cases h; exact of_eq rfl rfl rfl rfl
    | write n v => exact hostWrite h
  | device => cases h; exact deviceMoves s
  | sequencer => exact microStep h
  | reset => cases h; exact blockReset s

theorem step {s t : State} (h : step s = .next t) : s.KeepsPast t := by
  cases hturns : s.turns with
  | nil => exact microStep (step_sequencer hturns ▸ h)
  | cons turn rest =>
    rw [step_turn hturns] at h
    exact (of_eq rfl rfl rfl rfl : s.KeepsPast { s with turns := rest }).trans (take h)

end State.KeepsPast

/-- Settles O51: every turn keeps the past, operation by operation (`State.KeepsPast.step`). -/
theorem configurationAndPastStay : Obligations.ConfigurationAndPastStay := by
  unfold Obligations.ConfigurationAndPastStay
  intro s t h
  obtain ⟨hcfg, hid, ⟨events, htrace⟩, ⟨sent, hair⟩⟩ := State.KeepsPast.step h
  exact ⟨hcfg, hid, ⟨events, htrace.symm⟩, ⟨sent, hair.symm⟩⟩

end Sys2Proof.Machine
end

section
/-!
SUPPORT. What one turn can do, said once: the operation a position performs, the states an exchange and a wait can end
in, and the effect of a host action.
-/

namespace Sys2Proof.Machine

/-! ## Bus micro-operations and waits -/

/-- What a bus micro-operation does with the response: only a register read keeps it (R153, R154). -/
def useOf : BusOp → List Byte → State → State
  | .rreg _ => takeReadValue
  | .sres => dropResponse
  | .sidle => dropResponse
  | .stx => dropResponse
  | .sftx => dropResponse
  | .wreg _ _ => dropResponse
  | .burstw _ => dropResponse

theorem useOf_of_not_rreg {op : BusOp} (h : ∀ a, op ≠ .rreg a) : useOf op = dropResponse := by
  cases op with
  | rreg a => exact absurd rfl (h a)
  | sres => rfl
  | sidle => rfl
  | stx => rfl
  | sftx => rfl
  | wreg addr value => rfl
  | burstw payload => rfl

/-- So every bus micro-operation drops the response or keeps the value read. -/
theorem useOf_cases (op : BusOp) : useOf op = dropResponse ∨ useOf op = takeReadValue := by
  cases op with
  | rreg a => exact .inr rfl
  | _ => exact .inl rfl

theorem exec_busInstr (op : BusOp) (s : State) : exec (busInstr op) s = .next (s.exchange op (useOf op)) := by
  cases op <;> rfl

theorem exec_wait (d : Duration) (s : State) : exec (.wait d) s = .next (s.waitFor d) := rfl

/-- Everything an operation that goes on can be, with the operation it then is. -/
theorem exec_shapes {i : Instr} {s t : State} (h : exec i s = .next t) :
    (∃ op, i = busInstr op ∧ t = s.exchange op (useOf op)) ∨
    (∃ d, i = .wait d ∧ t = s.waitFor d) ∨
    (i = .init ∧ t = s.writeOp State.acceptInit) ∨
    (∃ c, (i, c) ∈ sends ∧ t = s.writeOp (State.acceptSend c)) ∨
    (∃ bytes, t = s.deliver bytes) := by
  have bus (op : BusOp) (hi : i = busInstr op) : t = s.exchange op (useOf op) := by
    rw [hi, exec_busInstr, Host.Outcome.next.injEq] at h
    exact h.symm
  cases i with
  | sres => exact .inl ⟨.sres, rfl, bus _ rfl⟩
  | sidle => exact .inl ⟨.sidle, rfl, bus _ rfl⟩
  | stx => exact .inl ⟨.stx, rfl, bus _ rfl⟩
  | sftx => exact .inl ⟨.sftx, rfl, bus _ rfl⟩
  | wreg addr value => exact .inl ⟨.wreg addr value, rfl, bus _ rfl⟩
  | rreg addr => exact .inl ⟨.rreg addr, rfl, bus _ rfl⟩
  | burstw payload => exact .inl ⟨.burstw payload, rfl, bus _ rfl⟩
  | wait d => cases h; exact .inr (.inl ⟨d, rfl, rfl⟩)
  | init => cases h; exact .inr (.inr (.inl ⟨rfl, rfl⟩))
  | sendStop => cases h; exact .inr (.inr (.inr (.inl ⟨0x1, by simp [sends], rfl⟩)))
  | sendUp => cases h; exact .inr (.inr (.inr (.inl ⟨0x2, by simp [sends], rfl⟩)))
  | sendDown => cases h; exact .inr (.inr (.inr (.inl ⟨0x4, by simp [sends], rfl⟩)))
  | sendProg => cases h; exact .inr (.inr (.inr (.inl ⟨0x8, by simp [sends], rfl⟩)))
  | decode symbols =>
    rw [exec, execDecode] at h
    split at h
    · cases h; exact .inr (.inr (.inr (.inr ⟨_, rfl⟩)))
    · cases h
  | _ => cases h; exact .inr (.inr (.inr (.inr ⟨_, rfl⟩)))

/-! ## The states an exchange and a wait can end in -/

/-- A draw is used up, and nothing but RDV, the device, the trace and the air may have changed. -/
def State.observed (s : State) (rdv : Byte) (dev : Dev) (trace : List Event) (air : List (List Byte)) : State :=
  { s.drawNext with rdv := rdv, dev := dev, trace := trace, air := air }

/-- An exchange leaves SP where it is, raises the Transport error, or lets SP go on (R150, R151, U5); RDV changes only
where the response is used, and the device's registers stay canonical. -/
theorem State.exchange_outcome {use : List Byte → State → State} (huse : use = dropResponse ∨ use = takeReadValue)
    (s : State) (op : BusOp) :
    ∃ rdv dev trace air, (use = dropResponse → rdv = s.rdv) ∧ (s.dev.regs.wf = true → dev.regs.wf = true) ∧
      (s.exchange op use = s.observed rdv dev trace air ∨
        s.exchange op use = (s.observed rdv dev trace air).raiseTransport ∨
        s.exchange op use = (s.observed rdv dev trace air).proceed) := by
  obtain ⟨-, h⟩ | ⟨-, h⟩ | ⟨resp, -, -, h⟩ := s.exchange_cases op use
  · exact ⟨s.rdv, s.dev, s.trace, s.air, fun _ => rfl, id, .inl h⟩
  · unfold State.exchangeFails at h
    split at h
    · exact ⟨s.rdv, _, _, _, fun _ => rfl, s.dev.act_wf op s.nextDraw, .inr (.inl h)⟩
    · exact ⟨s.rdv, s.dev, _, s.air, fun _ => rfl, id, .inr (.inl h)⟩
  · obtain ⟨rdv, hrdv, hdrop⟩ := use_response huse (s.dev.respond s.cfg op resp)
      ((s.drawNext.deviceActs op s.nextDraw).log
        (.exchange (busRequest s.cfg op) (.ok (s.dev.respond s.cfg op resp))))
    exact ⟨rdv, _, _, _, hdrop, s.dev.act_wf op s.nextDraw, .inr (.inr (h.trans (congrArg State.proceed hrdv)))⟩

/-- A step of a wait ends it, and SP goes on, or lets the timer run on (R160, R31). -/
theorem State.waitFor_outcome (s : State) (t : Duration) :
    ∃ dev trace, (s.dev.regs.wf = true → dev.regs.wf = true) ∧
      (s.waitFor t = ((s.observed s.rdv dev trace s.air).setTimer 0).proceed ∨
        ∃ n, s.waitFor t = (s.observed s.rdv dev trace s.air).setTimer n) := by
  obtain ⟨u, left, hu, -, hcases⟩ := s.waitFor_cases t
  have hbegun : ∃ trace, u = s.observed s.rdv s.dev trace s.air := by
    rw [hu]
    split
    · exact ⟨_, rfl⟩
    · exact ⟨s.trace, rfl⟩
  obtain ⟨trace, rfl⟩ := hbegun
  have hmoved : ∃ dev, (s.dev.regs.wf = true → dev.regs.wf = true) ∧
      (if s.nextDraw.settled then (s.observed s.rdv s.dev trace s.air).deviceMoves
        else s.observed s.rdv s.dev trace s.air) = s.observed s.rdv dev trace s.air := by
    split
    · exact ⟨s.dev.ownMove, fun h => by rwa [Dev.ownMove_regs], rfl⟩
    · exact ⟨s.dev, id, rfl⟩
  obtain ⟨dev, hwf, hdev⟩ := hmoved
  rw [hdev] at hcases
  obtain ⟨-, h⟩ | ⟨-, h⟩ := hcases
  · exact ⟨dev, trace, hwf, .inl h⟩
  · exact ⟨dev, trace, hwf, .inr ⟨_, h⟩⟩

/-! ## The micro-step -/

/-- The operation of a position is an exchange, a register read at I3 only, or a wait (R161, R193). -/
theorem State.microOp_performs {s : State} {i : Instr} (h : s.microOp = some i) :
    (s.sp.isExchange = true ∧ ∃ op, i = busInstr op ∧ ∀ a, op = .rreg a → s.sp = .i3) ∨
    (s.sp.isWait = true ∧ ∃ d, i = .wait d) := by
  unfold State.microOp at h
  cases hsp : s.sp <;> rw [hsp] at h
  case idle => cases h
  case s0 => cases h
  case s3 => cases h
  case i0 => cases h; exact .inl ⟨rfl, .sres, rfl, nofun⟩
  case i1 => cases h; exact .inr ⟨rfl, _, rfl⟩
  case i2 j =>
    dsimp only at h
    split at h
    · cases h; exact .inl ⟨rfl, .wreg _ _, rfl, nofun⟩
    · cases h
  case i3 => cases h; exact .inl ⟨rfl, .rreg _, rfl, fun _ _ => rfl⟩
  case s1 => cases h; exact .inl ⟨rfl, .sidle, rfl, nofun⟩
  case s2 => cases h; exact .inl ⟨rfl, .sftx, rfl, nofun⟩
  case fa k => cases h; exact .inl ⟨rfl, .burstw _, rfl, nofun⟩
  case fb k => cases h; exact .inl ⟨rfl, .stx, rfl, nofun⟩
  case fc k => cases h; exact .inr ⟨rfl, _, rfl⟩
  case fd k => cases h; exact .inr ⟨rfl, _, rfl⟩

/-- The three buffers of the latched operands, which position S0 fills in (R193). -/
def State.composedBufs (s : State) : Buffers :=
  ⟨s.latchedFrame, encodeLine s.cfg s.latchedFrame.toBytes, composeBuffer s.cfg s.latchedFrame⟩

/-- The state of position S0 with its values stored, before SP goes on. -/
def State.filled (s : State) : State := { s with bufs := s.composedBufs, out := composeBuffer s.cfg s.latchedFrame }

theorem State.microStep_at_s0 {s : State} (h : s.sp = .s0) : s.microStep = .next s.filled.proceed := by
  simp only [State.microStep, h]
  exact s.buildAndCompose_eq

theorem State.microStep_at_s3 {s : State} (h : s.sp = .s3) : s.microStep = .next s.commit := by
  simp [State.microStep, h]

/-- Everything a micro-step that goes on can be. -/
theorem State.microStep_next {s t : State} (h : s.microStep = .next t) :
    (s.sp = .idle ∧ t = s) ∨ (s.sp = .s0 ∧ t = s.filled.proceed) ∨ (s.sp = .s3 ∧ t = s.commit) ∨
    (s.sp.isExchange = true ∧ ∃ op, t = s.exchange op (useOf op)) ∨
    (s.sp.isWait = true ∧ ∃ d, t = s.waitFor d) := by
  obtain ⟨hsp, hm⟩ | ⟨hsp, -⟩ | ⟨hsp, hm⟩ | ⟨i, hop, hm⟩ | ⟨-, hm⟩ := s.microStep_cases
  · cases hm.symm.trans h; exact .inl ⟨hsp, rfl⟩
  · cases (s.microStep_at_s0 hsp).symm.trans h; exact .inr (.inl ⟨hsp, rfl⟩)
  · cases hm.symm.trans h; exact .inr (.inr (.inl ⟨hsp, rfl⟩))
  · rw [hm] at h
    obtain ⟨hsp, op, rfl, -⟩ | ⟨hsp, d, rfl⟩ := State.microOp_performs hop
    · cases (exec_busInstr op s).symm.trans h; exact .inr (.inr (.inr (.inl ⟨hsp, op, rfl⟩)))
    · cases h; exact .inr (.inr (.inr (.inr ⟨hsp, d, rfl⟩)))
  · cases hm.symm.trans h

/-! ## The host's actions -/

/-- What a byte written to OP can select: INIT, a SEND with one of the four codes, or a refusal (R191, R92). -/
inductive IsOpAction : (State → State) → Prop
  | init : IsOpAction State.acceptInit
  | send (c : Nibble) : legalCode c = true → IsOpAction (State.acceptSend c)
  | refuse (k : Kind) : k ≠ .none → k ≠ .transport → IsOpAction (fun u => u.refuseOp k)

/-- A byte that decodes is INIT's or a SEND's with its code (R81). -/
theorem decodeOp_ok {b : Byte} {i : Instr} (h : decodeOp b = .ok i) :
    i = .init ∨ ∃ c, (i, c) ∈ sends := by
  unfold decodeOp at h
  dsimp only at h
  split at h
  · cases h; exact .inl rfl
  split at h
  · split at h
    · cases h; exact .inr ⟨0x1, by simp [sends]⟩
    split at h
    · cases h; exact .inr ⟨0x2, by simp [sends]⟩
    split at h
    · cases h; exact .inr ⟨0x4, by simp [sends]⟩
    split at h
    · cases h; exact .inr ⟨0x8, by simp [sends]⟩
    · cases h
  · cases h

/-- A SEND is the OP write with its code, which is legal. -/
theorem exec_send {i : Instr} {c : Nibble} (h : (i, c) ∈ sends) :
    legalCode c = true ∧ ∀ s, exec i s = .next (s.writeOp (State.acceptSend c)) := by
  simp only [sends, List.mem_cons, Prod.mk.injEq, List.not_mem_nil, or_false] at h
  obtain ⟨rfl, rfl⟩ | ⟨rfl, rfl⟩ | ⟨rfl, rfl⟩ | ⟨rfl, rfl⟩ := h <;> exact ⟨rfl, fun _ => rfl⟩

theorem refusalOf_ne (e : DecodeError) : refusalOf e ≠ .none ∧ refusalOf e ≠ .transport := by
  cases e <;> decide

/-- A write to OP always answers, with the action its byte selects in every state. -/
theorem State.writeOpByte_action (b : Byte) :
    ∃ act, IsOpAction act ∧ ∀ s : State, s.writeOpByte b = .next (s.writeOp act) := by
  cases hb : decodeOp b with
  | error e =>
    obtain ⟨hnone, htransport⟩ := refusalOf_ne e
    exact ⟨_, .refuse _ hnone htransport, State.writeOpByte_of_decodeOp_error hb⟩
  | ok i =>
    obtain rfl | ⟨c, hc⟩ := decodeOp_ok hb
    · exact ⟨_, .init, State.writeOpByte_of_decodeOp hb⟩
    · obtain ⟨hlegal, hexec⟩ := exec_send hc
      exact ⟨_, .send c hlegal, fun s => (State.writeOpByte_of_decodeOp hb s).trans (hexec s)⟩

/-- What a host write can do (R36, R37). -/
inductive IsHostWrite : (State → State) → Prop
  | op {act : State → State} : IsOpAction act → IsHostWrite (fun s => s.writeOp act)
  | key (v : Byte) : IsHostWrite (fun s => s.writeKey v)
  | addr (v : RemoteAddr) : IsHostWrite (fun s => s.writeAddr v)
  | rc (v : RollingCode) : IsHostWrite (fun s => s.writeRc v)
  | ignored : IsHostWrite (fun s => s)

/-- STATUS, ERRINFO and the numbers above 5 take no write (R26, R27, R36). -/
theorem State.hostWrite_ignored {n : Nat} (h : n = 1 ∨ n = 2 ∨ 5 < n) (s : State) (v : BitVec 24) :
    s.hostWrite n v = .next s := by
  unfold State.hostWrite
  split
  · omega
  · omega
  · omega
  · omega
  · rfl

/-- A host write always answers, with an effect that does not depend on the state. -/
theorem State.hostWrite_effect (n : Nat) (v : BitVec 24) :
    ∃ f, IsHostWrite f ∧ ∀ s : State, s.hostWrite n v = .next (f s) := by
  match n with
  | 0 =>
    obtain ⟨act, hact, h⟩ := State.writeOpByte_action (v.setWidth 8)
    exact ⟨_, .op hact, h⟩
  | 3 => exact ⟨_, .key _, fun _ => rfl⟩
  | 4 => exact ⟨_, .addr _, fun _ => rfl⟩
  | 5 => exact ⟨_, .rc _, fun _ => rfl⟩
  | 1 => exact ⟨_, .ignored, fun s => s.hostWrite_ignored (by omega) v⟩
  | 2 => exact ⟨_, .ignored, fun s => s.hostWrite_ignored (by omega) v⟩
  | n + 6 => exact ⟨_, .ignored, fun s => s.hostWrite_ignored (by omega) v⟩

theorem State.writeKey_idle {s : State} (h : s.status.busy = false) (v : Byte) :
    s.writeKey v = { s with key := v, status := { s.status with kv := true } } := by
  simp [State.writeKey, h]

theorem State.writeAddr_idle {s : State} (h : s.status.busy = false) (v : RemoteAddr) :
    s.writeAddr v = { s with addr := v, status := { s.status with av := true } } := by
  simp [State.writeAddr, h]

theorem State.writeRc_idle {s : State} (h : s.status.busy = false) (v : RollingCode) :
    s.writeRc v = { s with rc := v, status := { s.status with rv := true } } := by
  simp [State.writeRc, h]

/-- Under BUSY a host write has no effect at all (R37). -/
theorem IsHostWrite.busy {f : State → State} (hf : IsHostWrite f) {s : State} (h : s.status.busy = true) : f s = s := by
  cases hf with
  | op _ => exact s.writeOp_busy _ h
  | key v => simp [State.writeKey, h]
  | addr v => simp [State.writeAddr, h]
  | rc v => simp [State.writeRc, h]
  | ignored => rfl

end Sys2Proof.Machine
end

section
/-!
SUPPORT. The invariant `Inv`: it holds after reset, every turn keeps it, and in a state that meets it every turn answers.
-/

namespace Sys2Proof.Machine

/-! ## The order of the positions (R198) -/

/-- INIT goes on within INIT until I3, SEND within SEND until S3. -/
theorem Pos.next_inInit (cfg : Config) {p : Pos} (h : p ≠ .i3) : (p.next cfg).inInit = p.inInit := by
  cases p with
  | i3 => exact absurd rfl h
  | i1 => dsimp only [Pos.next]; split <;> rfl
  | i2 j => dsimp only [Pos.next]; split <;> rfl
  | fc k => dsimp only [Pos.next]; split <;> rfl
  | _ => rfl

theorem Pos.next_inSend (cfg : Config) {p : Pos} (h : p ≠ .s3) : (p.next cfg).inSend = p.inSend := by
  cases p with
  | s3 => exact absurd rfl h
  | i1 => dsimp only [Pos.next]; split <;> rfl
  | i2 j => dsimp only [Pos.next]; split <;> rfl
  | fc k => dsimp only [Pos.next]; split <;> rfl
  | _ => rfl

/-- A position that belongs to INIT or SEND is not IDLE. -/
theorem Pos.running_iff (p : Pos) : p ≠ .idle ↔ p.inInit = true ∨ p.inSend = true := by
  cases p <;> simp [Pos.inInit, Pos.inSend]

theorem Pos.next_ne_idle (cfg : Config) {p : Pos} (hi3 : p ≠ .i3) (hs3 : p ≠ .s3) (h : p ≠ .idle) :
    p.next cfg ≠ .idle := by
  rw [Pos.running_iff, Pos.next_inInit cfg hi3, Pos.next_inSend cfg hs3]
  exact (Pos.running_iff p).mp h

/-- The table index stays within the table (R28). -/
theorem Pos.next_i2 {cfg : Config} {p : Pos} {j : Nat} (h : p.next cfg = .i2 j) : j < cfg.params.nCfg := by
  cases p with
  | i1 => simp only [Pos.next] at h; split at h <;> cases h; assumption
  | i2 k => simp only [Pos.next] at h; split at h <;> cases h; assumption
  | fc k => simp only [Pos.next] at h; split at h <;> cases h
  | _ => cases h

/-- Where an exchange or a wait is performed, an operation runs, and SP is neither at S0 nor at S3. -/
theorem Pos.ne_of_performs {p : Pos} (h : p.isExchange = true ∨ p.isWait = true) :
    p ≠ .idle ∧ p ≠ .s0 ∧ p ≠ .s3 := by
  refine ⟨?_, ?_, ?_⟩ <;> rintro rfl <;> simp [Pos.isExchange, Pos.isWait] at h

theorem Pos.not_isWait_of_isExchange {p : Pos} (h : p.isExchange = true) : p.isWait = false := by
  cases p with
  | i1 => cases h
  | fc k => cases h
  | fd k => cases h
  | _ => rfl

/-! ## The invariant at IDLE -/

/-- What `Inv` says of a state at IDLE: nothing of it is about a running operation. -/
structure IdleInv (s : State) : Prop where
  atIdle : s.sp = .idle
  notBusy : s.status.busy = false
  doneNotErr : ¬(s.status.done = true ∧ s.status.err = true)
  errorRecord :
    if s.status.err then
      ∃ kind phase index, s.errinfo = errorWord kind phase index ∧ kind ≠ .none ∧
        (kind ≠ .transport → phase = .none ∧ index = 0)
    else s.errinfo = 0
  timer : s.wt = 0
  registers : s.dev.regs.wf = true
  lineLength : s.bufs.line.length = 56
  txbufLength : s.bufs.txbuf.length = s.cfg.params.nPre + 57
  doneAfterInit : s.status.done = true → s.status.initd = true
  warnAfterInit : s.status.warn = true → s.status.initd = true

theorem IdleInv.inv {s : State} (h : IdleInv s) : Inv s :=
  { h with
    busyAtPosition := by simp [h.notBusy, h.atIdle]
    busyNotDone := by simp [h.notBusy]
    busyNotErr := by simp [h.notBusy]
    tableIndex := by simp [h.atIdle]
    timer := fun hwt => absurd h.timer hwt
    initRuns := by simp [h.atIdle, Pos.inInit]
    sendRuns := by simp [h.atIdle, Pos.inSend]
    latched := by simp [h.atIdle, Pos.inSend]
    composed := by simp [h.atIdle, Pos.inSend] }

/-- A state with STATUS, ERRINFO, SP and WT as after reset and no device register known (R39). -/
theorem IdleInv.of_cleared {s : State} (hsp : s.sp = .idle) (hstatus : s.status = State.reset.status)
    (herrinfo : s.errinfo = 0) (hwt : s.wt = 0) (hregs : s.dev.regs = []) (hline : s.bufs.line.length = 56)
    (htxbuf : s.bufs.txbuf.length = s.cfg.params.nPre + 57) : IdleInv s where
  atIdle := hsp
  notBusy := by rw [hstatus]; rfl
  doneNotErr := by rw [hstatus]; nofun
  errorRecord := by rw [hstatus]; exact herrinfo
  timer := hwt
  registers := by rw [hregs]; rfl
  lineLength := hline
  txbufLength := htxbuf
  doneAfterInit := by rw [hstatus]; nofun
  warnAfterInit := by rw [hstatus]; nofun

/-! ## The lengths of the buffers (R30) -/

theorem length_encodeLine (cfg : Config) (bytes : List Byte) : (encodeLine cfg bytes).length = 8 * bytes.length := by
  induction bytes with
  | nil => rfl
  | cons b rest ih =>
    have hcons : encodeLine cfg (b :: rest) = (bitsOf b).map (symbolOf cfg) ++ encodeLine cfg rest := rfl
    simp [hcons, ih, bitsOf]
    omega

theorem length_composeBuffer (cfg : Config) (f : Frame) : (composeBuffer cfg f).length = cfg.params.nPre + 57 := by
  simp [composeBuffer, length_encodeLine, Frame.toBytes, Params.nPre]

namespace Inv

theorem wt_zero {s : State} (h : Inv s) (hsp : s.sp.isWait = false) : s.wt = 0 := by
  by_contra hwt
  simp [h.timer hwt] at hsp

theorem busy {s : State} (h : Inv s) (hsp : s.sp ≠ .idle) : s.status.busy = true := h.busyAtPosition.mpr hsp

/-- While an operation runs there is no outcome yet (R26). -/
theorem running_outcome {s : State} (h : Inv s) (hsp : s.sp ≠ .idle) :
    s.status.done = false ∧ s.status.err = false :=
  ⟨by simpa [h.busy hsp] using h.busyNotDone, by simpa [h.busy hsp] using h.busyNotErr⟩

theorem idleInv {s : State} (h : Inv s) (hbusy : s.status.busy = false) : IdleInv s :=
  have hsp : s.sp = .idle := by
    by_contra hne
    simp [h.busy hne] at hbusy
  { h with
    atIdle := hsp
    notBusy := hbusy
    timer := h.wt_zero (by rw [hsp]; rfl) }

/-- After S0 the buffers hold the frame of the latched operands (R193). -/
theorem bufs_composed {s : State} (h : Inv s) (hsp : s.sp ≠ .s0) (hsend : s.sp.inSend = true) :
    s.bufs = s.composedBufs := h.composed hsend hsp

/-! ## Updates that leave the block's registers -/

theorem withTurns {s : State} (h : Inv s) (rest : List Turn) : Inv { s with turns := rest } := { h with }

theorem hostRead {s : State} (h : Inv s) (n : Nat) : Inv (s.hostRead n) := { h with }

theorem deviceMoves {s : State} (h : Inv s) : Inv s.deviceMoves :=
  { h with registers := by simpa using h.registers }

theorem observed {s : State} (h : Inv s) (rdv : Byte) {dev : Dev} (trace : List Event) (air : List (List Byte))
    (hdev : dev.regs.wf = true) : Inv (s.observed rdv dev trace air) := { h with registers := hdev }

/-- The timer takes any value during a wait (R31). -/
theorem setTimer {s : State} (h : Inv s) {n : Nat} (hn : n ≠ 0 → s.sp.isWait = true) : Inv (s.setTimer n) :=
  { h with timer := hn }

/-! ## The buffers filled (R30, R193) -/

theorem filled {s : State} (h : Inv s) (hsp : s.sp = .s0) : Inv s.filled :=
  { h with
    lineLength := length_encodeLine s.cfg _
    txbufLength := length_composeBuffer s.cfg _
    composed := fun _ hne => absurd hsp hne }

/-! ## The ends of an operation: an error, or success -/

/-- Taking an error keeps the invariant where no wait is pending and no success stands (R229, R221, R222). -/
theorem takeError {s : State} (h : Inv s) (hdone : s.status.done = false) (hwt : s.wt = 0) {kind : Kind}
    {phase : Phase} {index : BitVec 8} (hkind : kind ≠ .none)
    (hrefusal : kind ≠ .transport → phase = .none ∧ index = 0) : Inv (s.takeError kind phase index) :=
  IdleInv.inv
    { h with
      atIdle := rfl
      notBusy := rfl
      doneNotErr := by simp [hdone]
      errorRecord := ⟨kind, phase, index, rfl, hkind, hrefusal⟩
      timer := hwt }

theorem raiseTransport {s : State} (h : Inv s) (hsp : s.sp.isExchange = true) : Inv s.raiseTransport :=
  h.takeError (h.running_outcome (Pos.ne_of_performs (.inl hsp)).1).1
    (h.wt_zero (Pos.not_isWait_of_isExchange hsp)) nofun (absurd rfl)

theorem endInit {s : State} (h : Inv s) (hsp : s.sp = .i3) : Inv s.endInit :=
  have hrun : s.sp ≠ .idle := by simp [hsp]
  have herr : s.status.err = false := (h.running_outcome hrun).2
  IdleInv.inv
    { h with
      atIdle := rfl
      notBusy := rfl
      doneNotErr := by simp [herr]
      timer := h.wt_zero (by rw [hsp]; rfl)
      doneAfterInit := fun _ => rfl
      warnAfterInit := fun _ => rfl }

theorem commit {s : State} (h : Inv s) (hsp : s.sp = .s3) : Inv s.commit :=
  have hrun : s.sp ≠ .idle := by simp [hsp]
  have herr : s.status.err = false := (h.running_outcome hrun).2
  have hinitd : s.status.initd = true := (h.sendRuns (by rw [hsp]; rfl)).1
  IdleInv.inv
    { h with
      atIdle := rfl
      notBusy := rfl
      doneNotErr := by simp [herr]
      timer := h.wt_zero (by rw [hsp]; rfl)
      doneAfterInit := fun _ => hinitd }

/-! ## SP goes on -/

/-- The end of a micro-step keeps the invariant where no wait is pending and, in a SEND, the buffers are filled. -/
theorem proceed {s : State} (h : Inv s) (hrun : s.sp ≠ .idle) (hs3 : s.sp ≠ .s3) (hwt : s.wt = 0)
    (hbufs : s.sp.inSend = true → s.bufs = s.composedBufs) : Inv s.proceed := by
  by_cases hi3 : s.sp = .i3
  · rw [State.proceed_at_i3 hi3]
    exact h.endInit hi3
  · rw [State.proceed_elsewhere hi3]
    have hinit := Pos.next_inInit s.cfg hi3
    have hsend := Pos.next_inSend s.cfg hs3
    exact
      { h with
        busyAtPosition := iff_of_true (h.busy hrun) (Pos.next_ne_idle s.cfg hi3 hs3 hrun)
        tableIndex := fun _ => Pos.next_i2
        timer := fun hne => absurd hwt hne
        initRuns := fun hp => h.initRuns (hinit ▸ hp)
        sendRuns := fun hp => h.sendRuns (hsend ▸ hp)
        latched := fun hp => h.latched (hsend ▸ hp)
        composed := fun hp _ => hbufs (hsend ▸ hp) }

/-! ## The micro-step -/

theorem exchange {s : State} (h : Inv s) (hsp : s.sp.isExchange = true) (op : BusOp) :
    Inv (s.exchange op (useOf op)) := by
  obtain ⟨rdv, dev, trace, air, -, hwf, hout⟩ := s.exchange_outcome (useOf_cases op) op
  have hseen : Inv (s.observed rdv dev trace air) := h.observed rdv trace air (hwf h.registers)
  obtain ⟨hrun, hs0, hs3⟩ := Pos.ne_of_performs (.inl hsp)
  obtain heq | heq | heq := hout <;> rw [heq]
  · exact hseen
  · exact hseen.raiseTransport hsp
  · exact hseen.proceed hrun hs3 (h.wt_zero (Pos.not_isWait_of_isExchange hsp)) (h.bufs_composed hs0)

theorem waitFor {s : State} (h : Inv s) (hsp : s.sp.isWait = true) (d : Duration) : Inv (s.waitFor d) := by
  obtain ⟨dev, trace, hwf, hout⟩ := s.waitFor_outcome d
  have hseen (n : Nat) : Inv ((s.observed s.rdv dev trace s.air).setTimer n) :=
    (h.observed s.rdv trace s.air (hwf h.registers)).setTimer fun _ => hsp
  obtain ⟨hrun, hs0, hs3⟩ := Pos.ne_of_performs (.inr hsp)
  obtain heq | ⟨n, heq⟩ := hout <;> rw [heq]
  · exact (hseen 0).proceed hrun hs3 rfl (h.bufs_composed hs0)
  · exact hseen n

theorem microStep {s t : State} (h : Inv s) (hstep : s.microStep = .next t) : Inv t := by
  obtain ⟨-, rfl⟩ | ⟨hsp, rfl⟩ | ⟨hsp, rfl⟩ | ⟨hsp, op, rfl⟩ | ⟨hsp, d, rfl⟩ := State.microStep_next hstep
  · exact h
  · have hfilled := h.filled hsp
    have hat : s.filled.sp = .s0 := hsp
    exact hfilled.proceed (by simp [hat]) (by simp [hat]) (hfilled.wt_zero (by rw [hat]; rfl)) fun _ => rfl
  · exact h.commit hsp
  · exact h.exchange hsp op
  · exact h.waitFor hsp d

/-! ## The host's operations -/

theorem acceptInit {s : State} (h : IdleInv s) (hdone : s.status.done = false) (herr : s.status.err = false) :
    Inv s.acceptInit := by
  obtain ⟨-, heq⟩ | ⟨hinitd, heq⟩ := s.acceptInit_cases <;> rw [heq]
  · exact h.inv.takeError hdone h.timer nofun fun _ => ⟨rfl, rfl⟩
  · exact
      { h.inv with
        busyAtPosition := by simp
        busyNotDone := by simp [hdone]
        busyNotErr := by simp [herr]
        tableIndex := nofun
        timer := fun hwt => absurd h.timer hwt
        initRuns := fun _ => hinitd
        sendRuns := nofun
        latched := nofun
        composed := nofun
        warnAfterInit := nofun }

theorem acceptSend {s : State} {c : Nibble} (hlegal : legalCode c = true) (h : IdleInv s)
    (hdone : s.status.done = false) (herr : s.status.err = false) : Inv (s.acceptSend c) := by
  obtain ⟨-, heq⟩ | ⟨-, -, heq⟩ | ⟨hinitd, hid, heq⟩ := s.acceptSend_cases c <;> rw [heq]
  · exact h.inv.takeError hdone h.timer nofun fun _ => ⟨rfl, rfl⟩
  · exact h.inv.takeError hdone h.timer nofun fun _ => ⟨rfl, rfl⟩
  · exact
      { h.inv with
        busyAtPosition := by simp
        busyNotDone := by simp [hdone]
        busyNotErr := by simp [herr]
        tableIndex := nofun
        timer := fun hwt => absurd h.timer hwt
        initRuns := nofun
        sendRuns := fun _ => ⟨hinitd, hid⟩
        latched := fun _ => ⟨rfl, rfl, rfl, hlegal⟩
        composed := fun _ hne => absurd rfl hne }

/-- The old outcome is cleared first, so none stands when the operation starts or is refused (R190). -/
theorem clearOutcome {s : State} (h : IdleInv s) : IdleInv s.clearOutcome :=
  { h with
    doneNotErr := by simp
    errorRecord := rfl
    doneAfterInit := nofun }

theorem writeOp {s : State} (h : Inv s) {act : State → State} (hact : IsOpAction act) : Inv (s.writeOp act) := by
  cases hbusy : s.status.busy with
  | true => rwa [State.writeOp_busy act hbusy]
  | false =>
    rw [State.writeOp_idle act hbusy]
    have hclear : IdleInv s.clearOutcome := clearOutcome (h.idleInv hbusy)
    cases hact with
    | init => exact acceptInit hclear rfl rfl
    | send c hlegal => exact acceptSend hlegal hclear rfl rfl
    | refuse k hnone _ => exact hclear.inv.takeError rfl hclear.timer hnone fun _ => ⟨rfl, rfl⟩

theorem hostWrite {s : State} (h : Inv s) {f : State → State} (hf : IsHostWrite f) : Inv (f s) := by
  cases hbusy : s.status.busy with
  | true => rwa [hf.busy hbusy]
  | false =>
    have hidle := h.idleInv hbusy
    cases hf with
    | op hact => exact h.writeOp hact
    | key v =>
      show Inv (s.writeKey v)
      rw [State.writeKey_idle hbusy]
      exact IdleInv.inv { hidle with }
    | addr v =>
      show Inv (s.writeAddr v)
      rw [State.writeAddr_idle hbusy]
      exact IdleInv.inv { hidle with }
    | rc v =>
      show Inv (s.writeRc v)
      rw [State.writeRc_idle hbusy]
      exact IdleInv.inv { hidle with }
    | ignored => exact h

/-! ## The turns -/

theorem blockReset {s : State} : Inv s.blockReset :=
  IdleInv.inv (.of_cleared rfl rfl rfl rfl rfl rfl List.length_replicate)

theorem take {s t : State} (h : Inv s) {turn : Turn} (htake : s.take turn = .next t) : Inv t := by
  cases turn with
  | host a =>
    cases a with
    | read n => cases htake; exact h.hostRead n
    | write n v =>
      obtain ⟨f, hf, heff⟩ := State.hostWrite_effect n v
      cases (heff s).symm.trans htake
      exact h.hostWrite hf
  | device => cases htake; exact h.deviceMoves
  | sequencer => exact h.microStep htake
  | reset => cases htake; exact blockReset

theorem step {s t : State} (h : Inv s) (hstep : step s = .next t) : Inv t := by
  cases hturns : s.turns with
  | nil => exact h.microStep (step_sequencer hturns ▸ hstep)
  | cons turn rest => exact (h.withTurns rest).take (step_turn hturns ▸ hstep)

/-! ## No stop -/

/-- A micro-step stops only at a table index out of range (R28), so never in a state that meets the invariant. -/
theorem microStep_answers {s : State} (h : Inv s) : ∃ t, s.microStep = .next t := by
  obtain ⟨-, hm⟩ | ⟨hsp, -⟩ | ⟨-, hm⟩ | ⟨i, hop, hm⟩ | ⟨⟨j, hsp, hj⟩, -⟩ := s.microStep_cases
  · exact ⟨_, hm⟩
  · exact ⟨_, s.microStep_at_s0 hsp⟩
  · exact ⟨_, hm⟩
  · rw [hm]
    obtain ⟨-, op, rfl, -⟩ | ⟨-, d, rfl⟩ := State.microOp_performs hop
    · exact ⟨_, exec_busInstr op s⟩
    · exact ⟨_, exec_wait d s⟩
  · exact absurd (h.tableIndex j hsp) (Nat.not_lt.mpr hj)

theorem take_answers {s : State} (h : Inv s) (turn : Turn) : ∃ t, s.take turn = .next t := by
  cases turn with
  | host a =>
    cases a with
    | read n => exact ⟨_, rfl⟩
    | write n v =>
      obtain ⟨f, -, heff⟩ := State.hostWrite_effect n v
      exact ⟨_, heff s⟩
  | device => exact ⟨_, rfl⟩
  | sequencer => exact h.microStep_answers
  | reset => exact ⟨_, rfl⟩

end Inv

/-- Settles O49: every turn keeps the invariant (`Inv.microStep`, `Inv.hostWrite`, `Inv.blockReset`). -/
theorem stepKeepsInv : Obligations.StepKeepsInv := fun _ _ => Inv.step

/-- Settles O50: the turn due answers, since the one stop of the sequencer lies outside the invariant. -/
theorem invStateSteps : Obligations.InvStateSteps := by
  unfold Obligations.InvStateSteps
  intro s h
  cases hturns : s.turns with
  | nil => rw [step_sequencer hturns]; exact h.microStep_answers
  | cons turn rest => rw [step_turn hturns]; exact (h.withTurns rest).take_answers turn

/-- Settles O48: reset leaves SP at IDLE with no outcome, and the buffers with their lengths. -/
theorem invAtReset : Obligations.InvAtReset :=
  IdleInv.inv (.of_cleared rfl rfl rfl rfl rfl rfl List.length_replicate)

end Sys2Proof.Machine
end

section
/-!
SUPPORT. The frame of every operation: which registers it leaves, and that no turn but the block's reset clears a valid
bit or INITD.
-/

namespace Sys2Proof.Machine

/-! ## What no operation writes -/

/-- The later state has the same identity, buffers, valid bits, host's value and turns; INITD is not taken back. With
`State.KeepsPast`, which has the configuration and the identification, what every operation keeps. -/
structure State.KeepsRegisters (s t : State) : Prop where
  key : t.key = s.key := by simp
  addr : t.addr = s.addr := by simp
  rc : t.rc = s.rc := by simp
  bufs : t.bufs = s.bufs := by simp
  hostData : t.hostData = s.hostData := by simp
  turns : t.turns = s.turns := by simp
  kv : t.status.kv = s.status.kv := by simp
  av : t.status.av = s.status.av := by simp
  rv : t.status.rv = s.status.rv := by simp
  initd : s.status.initd = true → t.status.initd = true := by simp

namespace State.KeepsRegisters

theorem refl (s : State) : s.KeepsRegisters s := {}

theorem trans {s t u : State} (hst : s.KeepsRegisters t) (htu : t.KeepsRegisters u) : s.KeepsRegisters u where
  key := htu.key.trans hst.key
  addr := htu.addr.trans hst.addr
  rc := htu.rc.trans hst.rc
  bufs := htu.bufs.trans hst.bufs
  hostData := htu.hostData.trans hst.hostData
  turns := htu.turns.trans hst.turns
  kv := htu.kv.trans hst.kv
  av := htu.av.trans hst.av
  rv := htu.rv.trans hst.rv
  initd := htu.initd ∘ hst.initd

theorem observed (s : State) (rdv : Byte) (dev : Dev) (trace : List Event) (air : List (List Byte)) :
    s.KeepsRegisters (s.observed rdv dev trace air) := { refl s with }

theorem setTimer (s : State) (n : Nat) : s.KeepsRegisters (s.setTimer n) := {}

theorem raiseTransport (s : State) : s.KeepsRegisters s.raiseTransport := {}

theorem refuseOp (s : State) (k : Kind) : s.KeepsRegisters (s.refuseOp k) := {}

theorem proceed (s : State) : s.KeepsRegisters s.proceed := { initd := State.proceed_initd }

theorem exchange (s : State) (op : BusOp) : s.KeepsRegisters (s.exchange op (useOf op)) := by
  obtain ⟨rdv, dev, trace, air, -, -, heq | heq | heq⟩ := s.exchange_outcome (useOf_cases op) op <;> rw [heq]
  · exact observed ..
  · exact (observed ..).trans (raiseTransport _)
  · exact (observed ..).trans (proceed _)

theorem waitFor (s : State) (d : Duration) : s.KeepsRegisters (s.waitFor d) := by
  obtain ⟨dev, trace, -, heq | ⟨n, heq⟩⟩ := s.waitFor_outcome d <;> rw [heq]
  · exact ((observed ..).trans (setTimer _ _)).trans (proceed _)
  · exact (observed ..).trans (setTimer _ _)

theorem acceptInit (s : State) : s.KeepsRegisters s.acceptInit := by
  obtain ⟨-, heq⟩ | ⟨-, heq⟩ := s.acceptInit_cases <;> rw [heq]
  · exact refuseOp s _
  · exact {}

theorem acceptSend (s : State) (c : Nibble) : s.KeepsRegisters (s.acceptSend c) := by
  obtain ⟨-, heq⟩ | ⟨-, -, heq⟩ | ⟨-, -, heq⟩ := s.acceptSend_cases c <;> rw [heq]
  · exact refuseOp s _
  · exact refuseOp s _
  · exact {}

theorem writeOp (s : State) {act : State → State} (hact : IsOpAction act) : s.KeepsRegisters (s.writeOp act) := by
  cases hbusy : s.status.busy with
  | true =>
    rw [State.writeOp_busy act hbusy]
    exact refl s
  | false =>
    rw [State.writeOp_idle act hbusy]
    have hclear : s.KeepsRegisters s.clearOutcome := {}
    refine hclear.trans ?_
    cases hact with
    | init => exact acceptInit _
    | send c _ => exact acceptSend _ c
    | refuse k _ _ => exact refuseOp _ k

theorem exec {i : Instr} {s t : State} (h : exec i s = .next t) : s.KeepsRegisters t := by
  obtain ⟨op, -, rfl⟩ | ⟨d, -, rfl⟩ | ⟨-, rfl⟩ | ⟨c, hsend, rfl⟩ | ⟨bytes, rfl⟩ := exec_shapes h
  · exact exchange s op
  · exact waitFor s d
  · exact writeOp s .init
  · exact writeOp s (.send c (exec_send hsend).1)
  · exact {}

end State.KeepsRegisters

/-! ## What only some operations write -/

theorem State.exchange_latch (s : State) (op : BusOp) : (s.exchange op (useOf op)).latch = s.latch := by
  obtain ⟨rdv, dev, trace, air, -, -, heq | heq | heq⟩ := s.exchange_outcome (useOf_cases op) op <;>
    simp [heq, State.observed]

theorem State.exchange_wt (s : State) (op : BusOp) : (s.exchange op (useOf op)).wt = s.wt := by
  obtain ⟨rdv, dev, trace, air, -, -, heq | heq | heq⟩ := s.exchange_outcome (useOf_cases op) op <;>
    simp [heq, State.observed]

/-- Only a register read writes RDV (R153, R32). -/
theorem State.exchange_rdv (s : State) {op : BusOp} (hop : ∀ a, op ≠ .rreg a) :
    (s.exchange op (useOf op)).rdv = s.rdv := by
  obtain ⟨rdv, dev, trace, air, hrdv, -, heq | heq | heq⟩ := s.exchange_outcome (useOf_cases op) op <;>
    simp [heq, State.observed, hrdv (useOf_of_not_rreg hop)]

theorem State.waitFor_latch (s : State) (d : Duration) : (s.waitFor d).latch = s.latch := by
  obtain ⟨dev, trace, -, heq | ⟨n, heq⟩⟩ := s.waitFor_outcome d <;> simp [heq, State.observed]

theorem State.waitFor_rdv (s : State) (d : Duration) : (s.waitFor d).rdv = s.rdv := by
  obtain ⟨dev, trace, -, heq | ⟨n, heq⟩⟩ := s.waitFor_outcome d <;> simp [heq, State.observed]

/-- The later state has the same RDV, timer, device, trace and air, as every write to OP keeps them (R220). -/
structure State.KeepsBus (s t : State) : Prop where
  rdv : t.rdv = s.rdv := by simp
  wt : t.wt = s.wt := by simp
  dev : t.dev = s.dev := by simp
  trace : t.trace = s.trace := by simp
  air : t.air = s.air := by simp

theorem State.acceptInit_keepsBus (s : State) : s.KeepsBus s.acceptInit := by
  obtain ⟨-, heq⟩ | ⟨-, heq⟩ := s.acceptInit_cases <;> rw [heq] <;> exact {}

theorem State.acceptSend_keepsBus (s : State) (c : Nibble) : s.KeepsBus (s.acceptSend c) := by
  obtain ⟨-, heq⟩ | ⟨-, -, heq⟩ | ⟨-, -, heq⟩ := s.acceptSend_cases c <;> rw [heq] <;> exact {}

theorem State.writeOp_keepsBus (s : State) {act : State → State} (hact : ∀ u : State, u.KeepsBus (act u)) :
    s.KeepsBus (s.writeOp act) := by
  cases hbusy : s.status.busy with
  | true => rw [State.writeOp_busy act hbusy]; exact {}
  | false => rw [State.writeOp_idle act hbusy]; exact { hact s.clearOutcome with }

theorem State.writeOp_acceptInit_latch (s : State) : (s.writeOp State.acceptInit).latch = s.latch := by
  cases hbusy : s.status.busy with
  | true => rw [State.writeOp_busy _ hbusy]
  | false =>
    rw [State.writeOp_idle _ hbusy]
    obtain ⟨-, heq⟩ | ⟨-, heq⟩ := s.clearOutcome.acceptInit_cases <;> simp [heq]

/-- Settles O43: by what the operation is (`exec_shapes`); a clause about other operations is void for it. -/
theorem operationsKeepTheRegisters : Obligations.OperationsKeepTheRegisters := by
  unfold Obligations.OperationsKeepTheRegisters
  intro i s t h
  obtain ⟨hcfg, hid, -, -⟩ := State.KeepsPast.exec h
  obtain ⟨hkey, haddr, hrc, hbufs, hhost, hturns, hkv, hav, hrv, -⟩ := State.KeepsRegisters.exec h
  refine ⟨hcfg, hkey, haddr, hrc, hbufs, hhost, hturns, hid, hkv, hav, hrv, ?_⟩
  obtain ⟨op, rfl, rfl⟩ | ⟨d, rfl, rfl⟩ | ⟨rfl, rfl⟩ | ⟨c, hsend, rfl⟩ | ⟨bytes, rfl⟩ := exec_shapes h
  · exact ⟨fun _ => s.exchange_latch op, fun hne => s.exchange_rdv fun a ha => hne a (congrArg busInstr ha),
      fun _ => s.exchange_wt op, fun hne => absurd rfl (hne op), fun hne => absurd rfl (hne op)⟩
  · exact ⟨fun _ => s.waitFor_latch d, fun _ => s.waitFor_rdv d, fun hne => absurd rfl (hne d),
      fun _ hne => absurd rfl (hne d), fun _ hne => absurd rfl (hne d)⟩
  · obtain ⟨hrdv, hwt, hdev, htrace, hair⟩ := s.writeOp_keepsBus State.acceptInit_keepsBus
    exact ⟨fun _ => s.writeOp_acceptInit_latch, fun _ => hrdv, fun _ => hwt, fun _ _ => ⟨hdev, htrace, hair⟩,
      fun _ _ hne => absurd rfl hne⟩
  · obtain ⟨hrdv, hwt, hdev, htrace, hair⟩ := s.writeOp_keepsBus fun u => u.acceptSend_keepsBus c
    exact ⟨fun hne => absurd hsend (hne c), fun _ => hrdv, fun _ => hwt, fun _ _ => ⟨hdev, htrace, hair⟩,
      fun _ _ _ hne => absurd hsend (hne c)⟩
  · exact ⟨fun _ => rfl, fun _ => rfl, fun _ => rfl, fun _ _ => ⟨rfl, rfl, rfl⟩, fun _ _ _ _ => rfl⟩

/-! ## The micro-step and the rolling code (R38) -/

/-- A micro-step that is neither the commit nor S0 keeps the registers. -/
theorem State.microStep_writes {s t : State} (h : s.microStep = .next t) :
    (s.sp = .s0 ∧ t = s.filled.proceed) ∨ (s.sp = .s3 ∧ t = s.commit) ∨ s.KeepsRegisters t := by
  obtain ⟨-, rfl⟩ | hs0 | hs3 | ⟨-, op, rfl⟩ | ⟨-, d, rfl⟩ := State.microStep_next h
  · exact .inr (.inr (.refl t))
  · exact .inl hs0
  · exact .inr (.inl hs3)
  · exact .inr (.inr (.exchange s op))
  · exact .inr (.inr (.waitFor s d))

/-- Settles O42: S0 writes the buffers, S3 the rolling code, and every other micro-step keeps the registers. -/
theorem onlyCommitWritesTheRollingCode : Obligations.OnlyCommitWritesTheRollingCode := by
  unfold Obligations.OnlyCommitWritesTheRollingCode
  intro s t h
  obtain ⟨-, rfl⟩ | ⟨hsp, rfl⟩ | hkeeps := State.microStep_writes h
  · simp [State.filled]
  · exact ⟨rfl, rfl, fun hne => absurd hsp hne⟩
  · exact ⟨hkeeps.key, hkeeps.addr, fun _ => hkeeps.rc⟩

/-! ## The valid bits (R24) -/

/-- Each of KV, AV, RV and INITD that is set stays set. -/
structure State.KeepsValid (s t : State) : Prop where
  kv : s.status.kv = true → t.status.kv = true := by simp
  av : s.status.av = true → t.status.av = true := by simp
  rv : s.status.rv = true → t.status.rv = true := by simp
  initd : s.status.initd = true → t.status.initd = true := by simp

theorem State.KeepsRegisters.valid {s t : State} (h : s.KeepsRegisters t) : s.KeepsValid t where
  kv := h.kv.trans
  av := h.av.trans
  rv := h.rv.trans
  initd := h.initd

namespace State.KeepsValid

theorem microStep {s t : State} (h : s.microStep = .next t) : s.KeepsValid t := by
  obtain ⟨-, rfl⟩ | ⟨-, rfl⟩ | hkeeps := State.microStep_writes h
  · exact { (State.KeepsRegisters.proceed s.filled).valid with }
  · exact {}
  · exact hkeeps.valid

theorem hostWrite {f : State → State} (hf : IsHostWrite f) (s : State) : s.KeepsValid (f s) := by
  cases hbusy : s.status.busy with
  | true => rw [hf.busy hbusy]; exact {}
  | false =>
    cases hf with
    | op hact => exact (State.KeepsRegisters.writeOp s hact).valid
    | key v => simp only [State.writeKey_idle hbusy]; exact {}
    | addr v => simp only [State.writeAddr_idle hbusy]; exact {}
    | rc v => simp only [State.writeRc_idle hbusy]; exact {}
    | ignored => exact {}

theorem take {s t : State} {turn : Turn} (hturn : turn ≠ .reset) (h : s.take turn = .next t) : s.KeepsValid t := by
  cases turn with
  | host a =>
    cases a with
    | read n => cases h; exact ⟨id, id, id, id⟩
    | write n v =>
      obtain ⟨f, hf, heff⟩ := State.hostWrite_effect n v
      cases (heff s).symm.trans h
      exact hostWrite hf s
  | device => cases h; exact {}
  | sequencer => exact microStep h
  | reset => exact absurd rfl hturn

end State.KeepsValid

/-- Settles O52: every turn but the reset keeps the valid bits and INITD (`State.KeepsValid.take`). -/
theorem onlyResetClearsValidBits : Obligations.OnlyResetClearsValidBits := by
  unfold Obligations.OnlyResetClearsValidBits
  intro s t hreset h
  have hkeeps : s.KeepsValid t := by
    cases hturns : s.turns with
    | nil => exact .microStep (step_sequencer hturns ▸ h)
    | cons turn rest =>
      have hturn : turn ≠ .reset := fun heq => hreset rest (heq ▸ hturns)
      rw [step_turn hturns] at h
      exact { State.KeepsValid.take hturn h with }
  exact ⟨hkeeps.kv, hkeeps.av, hkeeps.rv, hkeeps.initd⟩

end Sys2Proof.Machine
end

section
/-!
SUPPORT. The block does not see the device (R34, R175): two runs that differ in the device and the air, step by step.
-/

namespace Sys2Proof.Machine

/-- The two states differ at most in the device and in what was on the air. -/
def State.EqButRadio (s t : State) : Prop := ∃ dev air, t = { s with dev := dev, air := air }

/-- The response of anything but a register read is the transport's alone (R154, R171). -/
theorem Dev.respond_of_not_rreg {op : BusOp} (hop : ∀ a, op ≠ .rreg a) (cfg : Config) (resp : List Byte) (dev : Dev) :
    dev.respond cfg op resp = resp := by
  cases op with
  | rreg a => exact absurd rfl (hop a)
  | _ => rfl

namespace State.EqButRadio

/-- A branch on a condition that the device does not decide. -/
theorem branch {c : Prop} [Decidable c] {s s' t t' : State} (hpos : s.EqButRadio t) (hneg : s'.EqButRadio t') :
    (if c then s else s').EqButRadio (if c then t else t') := by
  split
  · exact hpos
  · exact hneg

/-! ## The shared operations -/

section
variable {s t : State} (h : s.EqButRadio t)
include h

theorem sp_eq : t.sp = s.sp := by obtain ⟨dev, air, rfl⟩ := h; rfl

theorem cfg_eq : t.cfg = s.cfg := by obtain ⟨dev, air, rfl⟩ := h; rfl

theorem status_eq : t.status = s.status := by obtain ⟨dev, air, rfl⟩ := h; rfl

theorem wt_eq : t.wt = s.wt := by obtain ⟨dev, air, rfl⟩ := h; rfl

theorem nextDraw_eq : t.nextDraw = s.nextDraw := by obtain ⟨dev, air, rfl⟩ := h; rfl

theorem turns_eq : t.turns = s.turns := by obtain ⟨dev, air, rfl⟩ := h; rfl

theorem microOp_eq : t.microOp = s.microOp := by obtain ⟨dev, air, rfl⟩ := h; rfl

theorem withTurns (rest : List Turn) : EqButRadio { s with turns := rest } { t with turns := rest } := by
  obtain ⟨dev, air, rfl⟩ := h; exact ⟨dev, air, rfl⟩

theorem drawNext : s.drawNext.EqButRadio t.drawNext := by
  obtain ⟨dev, air, rfl⟩ := h; exact ⟨dev, air, rfl⟩

theorem deviceActs (op : BusOp) (d : Draw) : (s.deviceActs op d).EqButRadio (t.deviceActs op d) := by
  obtain ⟨dev, air, rfl⟩ := h; exact ⟨_, _, rfl⟩

theorem deviceMoves : s.deviceMoves.EqButRadio t.deviceMoves := by
  obtain ⟨dev, air, rfl⟩ := h; exact ⟨_, _, rfl⟩

theorem log (e : Event) : (s.log e).EqButRadio (t.log e) := by
  obtain ⟨dev, air, rfl⟩ := h; exact ⟨dev, air, rfl⟩

theorem setTimer (n : Nat) : (s.setTimer n).EqButRadio (t.setTimer n) := by
  obtain ⟨dev, air, rfl⟩ := h; exact ⟨dev, air, rfl⟩

theorem raiseTransport : s.raiseTransport.EqButRadio t.raiseTransport := by
  obtain ⟨dev, air, rfl⟩ := h; exact ⟨dev, air, rfl⟩

theorem refuseOp (k : Kind) : (s.refuseOp k).EqButRadio (t.refuseOp k) := by
  obtain ⟨dev, air, rfl⟩ := h; exact ⟨dev, air, rfl⟩

theorem clearOutcome : s.clearOutcome.EqButRadio t.clearOutcome := by
  obtain ⟨dev, air, rfl⟩ := h; exact ⟨dev, air, rfl⟩

theorem proceed : s.proceed.EqButRadio t.proceed := by
  obtain ⟨dev, air, rfl⟩ := h
  unfold State.proceed
  dsimp only
  split <;> exact ⟨dev, air, rfl⟩

theorem commit : s.commit.EqButRadio t.commit := by
  obtain ⟨dev, air, rfl⟩ := h; exact ⟨dev, air, rfl⟩

theorem filled : s.filled.EqButRadio t.filled := by
  obtain ⟨dev, air, rfl⟩ := h; exact ⟨dev, air, rfl⟩

theorem blockReset : s.blockReset.EqButRadio t.blockReset := by
  obtain ⟨dev, air, rfl⟩ := h; exact ⟨_, air, rfl⟩

theorem hostRead (n : Nat) : (s.hostRead n).EqButRadio (t.hostRead n) := by
  obtain ⟨dev, air, rfl⟩ := h
  refine ⟨dev, air, ?_⟩
  unfold State.hostRead State.hostRegister
  split <;> rfl
end

/-! ## The exchange and the wait -/

theorem exchangeFails {s t : State} (h : s.EqButRadio t) (op : BusOp) (d : Draw) :
    (s.exchangeFails op d).EqButRadio (t.exchangeFails op d) := by
  simp only [State.exchangeFails, h.cfg_eq]
  exact ((branch (h.deviceActs op d) h).log _).raiseTransport

theorem exchangeReturns {s t : State} (h : s.EqButRadio t) {op : BusOp} (hop : ∀ a, op ≠ .rreg a) (d : Draw)
    (resp : List Byte) : (s.exchangeReturns op d resp dropResponse).EqButRadio
      (t.exchangeReturns op d resp dropResponse) := by
  simp only [State.exchangeReturns, Dev.respond_of_not_rreg hop, dropResponse, h.cfg_eq]
  exact ((h.deviceActs op d).log _).proceed

theorem exchange {s t : State} (h : s.EqButRadio t) {op : BusOp} (hop : ∀ a, op ≠ .rreg a) :
    (s.exchange op (useOf op)).EqButRadio (t.exchange op (useOf op)) := by
  rw [useOf_of_not_rreg hop]
  simp only [State.exchange, h.nextDraw_eq, State.drawNext_cfg, h.cfg_eq]
  cases s.nextDraw.reply with
  | silent => exact h.drawNext
  | fail => exact h.drawNext.exchangeFails op _
  | bytes resp => exact branch (h.drawNext.exchangeReturns hop _ resp) (h.drawNext.exchangeFails op _)

theorem passTime {s t : State} (h : s.EqButRadio t) (d : Draw) : (s.passTime d).EqButRadio (t.passTime d) := by
  have hmoved : (if d.settled then s.deviceMoves else s).EqButRadio (if d.settled then t.deviceMoves else t) :=
    branch h.deviceMoves h
  simp only [State.passTime, hmoved.wt_eq]
  exact branch (hmoved.setTimer 0).proceed (hmoved.setTimer _)

theorem waitFor {s t : State} (h : s.EqButRadio t) (d : Duration) : (s.waitFor d).EqButRadio (t.waitFor d) := by
  simp only [State.waitFor, State.beginWait, h.nextDraw_eq, State.drawNext_wt, h.wt_eq, State.drawNext_cfg, h.cfg_eq]
  exact (branch ((h.drawNext.log _).setTimer _) h.drawNext).passTime _

/-! ## The turns -/

/-- Away from I3 a micro-step that answers does so whatever the device is. -/
theorem microStep {s s' t : State} (h : s.EqButRadio s') (hsp : s.sp ≠ .i3) (hstep : s.microStep = .next t) :
    ∃ t', s'.microStep = .next t' ∧ t.EqButRadio t' := by
  obtain ⟨hat, hm⟩ | ⟨hat, -⟩ | ⟨hat, hm⟩ | ⟨i, hop, hm⟩ | ⟨-, hm⟩ := s.microStep_cases
  · cases hm.symm.trans hstep
    exact ⟨s', State.microStep_at_idle (h.sp_eq.trans hat), h⟩
  · cases (State.microStep_at_s0 hat).symm.trans hstep
    exact ⟨_, State.microStep_at_s0 (h.sp_eq.trans hat), h.filled.proceed⟩
  · cases hm.symm.trans hstep
    exact ⟨_, State.microStep_at_s3 (h.sp_eq.trans hat), h.commit⟩
  · rw [hm] at hstep
    rw [State.microStep_of_microOp (h.microOp_eq.trans hop)]
    obtain ⟨-, op, rfl, hrreg⟩ | ⟨-, d, rfl⟩ := State.microOp_performs hop
    · cases (exec_busInstr op s).symm.trans hstep
      exact ⟨_, exec_busInstr op s', h.exchange fun a ha => hsp (hrreg a ha)⟩
    · cases hstep
      exact ⟨_, exec_wait d s', h.waitFor d⟩
  · cases hm.symm.trans hstep

theorem opAction {s t : State} (h : s.EqButRadio t) {act : State → State} (hact : IsOpAction act) :
    (act s).EqButRadio (act t) := by
  cases hact with
  | init =>
    simp only [State.acceptInit, h.status_eq]
    refine branch (h.refuseOp _) ?_
    obtain ⟨dev, air, rfl⟩ := h; exact ⟨dev, air, rfl⟩
  | send c _ =>
    simp only [State.acceptSend, h.status_eq]
    refine branch (h.refuseOp _) (branch (h.refuseOp _) ?_)
    obtain ⟨dev, air, rfl⟩ := h; exact ⟨dev, air, rfl⟩
  | refuse k _ _ => exact h.refuseOp k

theorem hostWrite {s t : State} (h : s.EqButRadio t) {f : State → State} (hf : IsHostWrite f) :
    (f s).EqButRadio (f t) := by
  cases hbusy : s.status.busy with
  | true => rwa [hf.busy hbusy, hf.busy (h.status_eq ▸ hbusy)]
  | false =>
    have hbusy' : t.status.busy = false := h.status_eq ▸ hbusy
    cases hf with
    | op hact =>
      simp only [State.writeOp_idle _ hbusy, State.writeOp_idle _ hbusy']
      exact h.clearOutcome.opAction hact
    | key v =>
      simp only [State.writeKey_idle hbusy, State.writeKey_idle hbusy']
      obtain ⟨dev, air, rfl⟩ := h; exact ⟨dev, air, rfl⟩
    | addr v =>
      simp only [State.writeAddr_idle hbusy, State.writeAddr_idle hbusy']
      obtain ⟨dev, air, rfl⟩ := h; exact ⟨dev, air, rfl⟩
    | rc v =>
      simp only [State.writeRc_idle hbusy, State.writeRc_idle hbusy']
      obtain ⟨dev, air, rfl⟩ := h; exact ⟨dev, air, rfl⟩
    | ignored => exact h

theorem take {s s' t : State} (h : s.EqButRadio s') (hsp : s.sp ≠ .i3) {turn : Turn} (htake : s.take turn = .next t) :
    ∃ t', s'.take turn = .next t' ∧ t.EqButRadio t' := by
  cases turn with
  | host a =>
    cases a with
    | read n => cases htake; exact ⟨_, rfl, h.hostRead n⟩
    | write n v =>
      obtain ⟨f, hf, heff⟩ := State.hostWrite_effect n v
      cases (heff s).symm.trans htake
      exact ⟨_, heff s', h.hostWrite hf⟩
  | device => cases htake; exact ⟨_, rfl, h.deviceMoves⟩
  | sequencer => exact h.microStep hsp htake
  | reset => cases htake; exact ⟨_, rfl, h.blockReset⟩

theorem step {s s' t : State} (h : s.EqButRadio s') (hsp : s.sp ≠ .i3) (hstep : step s = .next t) :
    ∃ t', step s' = .next t' ∧ t.EqButRadio t' := by
  cases hturns : s.turns with
  | nil =>
    rw [step_sequencer hturns] at hstep
    rw [step_sequencer (h.turns_eq.trans hturns)]
    exact h.microStep hsp hstep
  | cons turn rest =>
    rw [step_turn hturns] at hstep
    rw [step_turn (h.turns_eq.trans hturns)]
    exact (h.withTurns rest).take hsp hstep

end State.EqButRadio

/-- Settles O53: away from I3 every turn keeps two such states together (`State.EqButRadio.step`). -/
theorem blockDoesNotSeeTheDevice : Obligations.BlockDoesNotSeeTheDevice := by
  unfold Obligations.BlockDoesNotSeeTheDevice
  intro s t dev air hsp hstep
  obtain ⟨t', ht', dev', air', rfl⟩ := State.EqButRadio.step (s' := { s with dev := dev, air := air })
    ⟨dev, air, rfl⟩ hsp hstep
  exact ⟨dev', air', ht'⟩

end Sys2Proof.Machine
end

section
/-!
SUPPORT. What the host sees: its reads and writes (R36, R37), and the block after reset (R39).
-/

namespace Sys2Proof.Machine

/-- STATUS as a number: bit `i` of R26 weighs `2 ^ i`. -/
theorem Status.toByte_setWidth (st : Status) :
    st.toByte.setWidth 24 = BitVec.ofNat 24 (st.busy.toNat + 2 * st.done.toNat + 4 * st.err.toNat +
      8 * st.warn.toNat + 16 * st.initd.toNat + 32 * st.kv.toNat + 64 * st.av.toNat + 128 * st.rv.toNat) := by
  obtain ⟨busy, done, err, warn, initd, kv, av, rv⟩ := st
  revert busy done err warn initd kv av rv
  decide

theorem State.hostRegister_above {n : Nat} (h : 5 < n) (s : State) : s.hostRegister n = 0 := by
  unfold State.hostRegister
  split
  · rfl
  · omega
  · omega
  · omega
  · omega
  · omega
  · rfl

/-- Settles O22: the value read is `State.hostRegister`, and what is written to STATUS, ERRINFO or above is dropped. -/
theorem hostReads : Obligations.HostReads := by
  unfold Obligations.HostReads
  refine ⟨fun s n => ⟨s.hostRegister n, rfl, ?op, ?status, ?errinfo, ?key, ?addr, ?rc, ?above⟩, ?writes⟩
  case op => rintro rfl; rfl
  case status => rintro rfl; exact s.status.toByte_setWidth
  case errinfo => rintro rfl; exact (BitVec.ofNat_toNat 24 s.errinfo).symm
  case key => rintro rfl; exact (BitVec.ofNat_toNat 24 s.key).symm
  case addr => rintro rfl; rfl
  case rc => rintro rfl; exact (BitVec.ofNat_toNat 24 s.rc).symm
  case above => exact fun h => s.hostRegister_above h
  case writes => exact fun s n v h => s.hostWrite_ignored h v

/-- Settles O21: under BUSY no effect of a host write (`IsHostWrite.busy`), else the register and its valid bit. -/
theorem hostWrites : Obligations.HostWrites := by
  unfold Obligations.HostWrites
  refine fun s => ⟨?busy, fun hbusy => ⟨?key, ?addr, ?rc⟩⟩
  case busy =>
    intro hbusy n v
    obtain ⟨f, hf, heff⟩ := State.hostWrite_effect n v
    rw [heff, hf.busy hbusy]
  case key =>
    intro key
    simp [State.hostWrite, State.writeKey_idle hbusy]
  case addr =>
    intro addr
    simp [State.hostWrite, State.writeAddr_idle hbusy]
  case rc =>
    intro rc
    simp [State.hostWrite, State.writeRc_idle hbusy]

/-- Settles O45: field by field; the configuration meets R6 as every `Config` does. -/
theorem resetState : Obligations.ResetState := by
  unfold Obligations.ResetState
  exact ⟨by decide, rfl, rfl, rfl, rfl, rfl, Memory.read?_nil, State.reset.cfg.meets⟩

end Sys2Proof.Machine
end

section
/-!
SUPPORT. The device's registers (R62, R171): what each operation can do to the device, and that with the device in IDLE
only SRES and WREG write a register.
-/

namespace Sys2Proof.Machine

/-- In IDLE every micro-operation but SRES keeps every register but the one at WREG's address (R167 to R172). -/
theorem Dev.act_read?_of_idle {dev : Dev} (hidle : dev.mode = .idle) {op : BusOp} (hop : op ≠ .sres) (d : Draw) {a : Nat}
    (ha : ∀ addr value, op = .wreg addr value → a ≠ addr.toNat) :
    (dev.act op d).regs.read? a = dev.regs.read? a := by
  cases op with
  | sres => exact absurd rfl hop
  | wreg addr value =>
    simp only [Dev.act, hidle, if_true]
    exact Memory.read?_write_other _ value (ha addr value rfl)
  | sidle => simp [Dev.act, hidle]
  | stx => simp [Dev.act, hidle]
  | sftx => simp [Dev.act, hidle]
  | rreg addr => simp [Dev.act, hidle]
  | burstw payload => simp [Dev.act, hidle]

/-- An exchange leaves the device as it was, or with the micro-operation's effect (R150, R151, R174). -/
theorem State.exchange_dev (s : State) (op : BusOp) :
    (s.exchange op (useOf op)).dev = s.dev ∨ (s.exchange op (useOf op)).dev = s.dev.act op s.nextDraw := by
  obtain ⟨-, h⟩ | ⟨-, h⟩ | ⟨resp, -, -, h⟩ := s.exchange_cases op (useOf op) <;> rw [h]
  · exact .inl s.drawNext_dev
  · unfold State.exchangeFails
    split
    · exact .inr (by simp)
    · exact .inl (by simp)
  · obtain ⟨rdv, hrdv, -⟩ := use_response (useOf_cases op) (s.dev.respond s.cfg op resp)
      ((s.drawNext.deviceActs op s.nextDraw).log
        (.exchange (busRequest s.cfg op) (.ok (s.dev.respond s.cfg op resp))))
    exact .inr (by simp [State.exchangeReturns, hrdv])

/-- In a wait the device makes at most its own move, which writes no register (R166, R169). -/
theorem State.waitFor_regs (s : State) (d : Duration) : (s.waitFor d).dev.regs = s.dev.regs := by
  obtain ⟨u, left, hu, -, hcases⟩ := s.waitFor_cases d
  have hbegun : u.dev = s.dev := by rw [hu]; split <;> simp
  have hmoved : (if s.nextDraw.settled then u.deviceMoves else u).dev.regs = s.dev.regs := by
    split <;> simp [hbegun]
  obtain ⟨-, h⟩ | ⟨-, h⟩ := hcases <;> simpa [h] using hmoved

/-- Settles O44: by what the operation is (`exec_shapes`); a bus operation by its effect in IDLE (`Dev.act_read?_of_idle`),
and no other operation writes a register. -/
theorem onlyWregStores : Obligations.OnlyWregStores := by
  unfold Obligations.OnlyWregStores
  intro i s t h hsres hidle a ha
  obtain ⟨op, rfl, rfl⟩ | ⟨d, -, rfl⟩ | ⟨-, rfl⟩ | ⟨c, -, rfl⟩ | ⟨bytes, rfl⟩ := exec_shapes h
  · have hop : op ≠ .sres := fun heq => hsres (congrArg busInstr heq)
    have hwreg : ∀ addr value, op = .wreg addr value → a ≠ addr.toNat :=
      fun addr value heq => ha addr value (congrArg busInstr heq)
    obtain hdev | hdev := s.exchange_dev op
    · rw [hdev]
    · rw [hdev, Dev.act_read?_of_idle hidle hop s.nextDraw hwreg]
  · rw [s.waitFor_regs d]
  · rw [(s.writeOp_keepsBus State.acceptInit_keepsBus).dev]
  · rw [(s.writeOp_keepsBus fun u => u.acceptSend_keepsBus c).dev]
  · rfl

end Sys2Proof.Machine
end

section
/-!
SUPPORT. Words of the three spaces (30_encoding.md): what the decoder reads from each word, and that encoding and decoding
undo each other (R81 to R86).
-/

namespace Sys2Proof.Machine

/-! ## The OP byte (R81, R92) -/

/-- A byte is determined by its two nibbles. -/
theorem eq_of_nibbles {b c : Byte} (hhigh : b.extractLsb' 4 4 = c.extractLsb' 4 4)
    (hlow : b.extractLsb' 0 4 = c.extractLsb' 0 4) : b = c := by
  have hsplit (x : Byte) : x.extractLsb' 4 4 ++ x.extractLsb' 0 4 = x :=
    BitVec.extractLsb'_append_extractLsb' (w := 4) (len := 4)
  rw [← hsplit b, ← hsplit c, hhigh, hlow]

/-- An OP byte that decodes is the word of its operation, which has no operand. -/
theorem encode_of_decodeOp {b : Byte} {i : Instr} (h : decodeOp b = .ok i) (cfg : Config) :
    encode cfg i = some (.hostByte b) ∧ i.wellFormed cfg = true := by
  unfold decodeOp at h
  dsimp only at h
  split at h
  next hinit =>
    cases h
    obtain ⟨hop, hcode⟩ := hinit
    exact ⟨by rw [eq_of_nibbles (c := 0x10) hop hcode]; rfl, rfl⟩
  next =>
    split at h
    next hop =>
      split at h
      next hcode => cases h; exact ⟨by rw [eq_of_nibbles (c := 0x21) hop hcode]; rfl, rfl⟩
      split at h
      next hcode => cases h; exact ⟨by rw [eq_of_nibbles (c := 0x22) hop hcode]; rfl, rfl⟩
      split at h
      next hcode => cases h; exact ⟨by rw [eq_of_nibbles (c := 0x24) hop hcode]; rfl, rfl⟩
      split at h
      next hcode => cases h; exact ⟨by rw [eq_of_nibbles (c := 0x28) hop hcode]; rfl, rfl⟩
      next => cases h
    next => cases h

/-- A SEND form with a code that no SEND has (R91). -/
theorem decodeOp_badCommand {b : Byte} (hop : b.extractLsb' 4 4 = 0x2#4) (hstop : b ≠ 0x21) (hup : b ≠ 0x22)
    (hdown : b ≠ 0x24) (hprog : b ≠ 0x28) : decodeOp b = .error .badCommand := by
  have hcode {c : Byte} (hc : c.extractLsb' 4 4 = 0x2#4) (hne : b ≠ c) : b.extractLsb' 0 4 ≠ c.extractLsb' 0 4 :=
    fun hlow => hne (eq_of_nibbles (hop.trans hc.symm) hlow)
  have h1 : b.extractLsb' 0 4 ≠ 0x1#4 := hcode rfl hstop
  have h2 : b.extractLsb' 0 4 ≠ 0x2#4 := hcode rfl hup
  have h4 : b.extractLsb' 0 4 ≠ 0x4#4 := hcode rfl hdown
  have h8 : b.extractLsb' 0 4 ≠ 0x8#4 := hcode rfl hprog
  simp [decodeOp, hop, h1, h2, h4, h8]

/-- A byte that is neither INIT's nor a SEND form (R92). -/
theorem decodeOp_badOp {b : Byte} (hop : b.extractLsb' 4 4 ≠ 0x2#4) (hinit : b ≠ 0x10) : decodeOp b = .error .badOp := by
  have hnotInit : ¬(b.extractLsb' 4 4 = 0x1#4 ∧ b.extractLsb' 0 4 = 0x0#4) :=
    fun ⟨hhigh, hlow⟩ => hinit (eq_of_nibbles hhigh hlow)
  simp [decodeOp, hop, hnotInit]

/-- A refusal at the write: the old outcome is cleared (R190), then ERR and the error record are set (R191, R229). -/
theorem State.writeOpByte_refused {s : State} {b : Byte} {e : DecodeError} (h : decodeOp b = .error e)
    (hbusy : s.status.busy = false) :
    s.writeOpByte b = .next { s with
      status := { s.status with busy := false, done := false, err := true }
      errinfo := errorWord (refusalOf e) .none 0, sp := .idle } := by
  rw [State.writeOpByte_of_decodeOp_error h, State.writeOp_idle _ hbusy]
  rfl

/-- Settles O4: a legal byte is performed as the operation it decodes to, any other refused by its decoding error. -/
theorem opBytesLegalOrRefused : Obligations.OpBytesLegalOrRefused := by
  unfold Obligations.OpBytesLegalOrRefused
  refine fun s b hbusy => ⟨?legal, ?badCommand, ?badOp⟩
  case legal =>
    intro hlegal
    have hdecodes : ∃ i, decodeOp b = .ok i := by
      obtain rfl | rfl | rfl | rfl | rfl := hlegal <;> exact ⟨_, rfl⟩
    obtain ⟨i, hi⟩ := hdecodes
    obtain ⟨hword, -⟩ := encode_of_decodeOp hi s.cfg
    exact ⟨i, hi, hword, State.writeOpByte_of_decodeOp hi s⟩
  case badCommand =>
    exact fun hop hstop hup hdown hprog =>
      State.writeOpByte_refused (decodeOp_badCommand hop hstop hup hdown hprog) hbusy
  case badOp => exact fun hop hinit => State.writeOpByte_refused (decodeOp_badOp hop hinit) hbusy

/-! ## Requests (R82 to R85) -/

/-- R6 (d): no two strobe codes are equal. -/
theorem strobes_differ (cfg : Config) :
    cfg.params.strobeSidle ≠ cfg.params.strobeSres ∧ cfg.params.strobeStx ≠ cfg.params.strobeSres ∧
    cfg.params.strobeStx ≠ cfg.params.strobeSidle ∧ cfg.params.strobeSftx ≠ cfg.params.strobeSres ∧
    cfg.params.strobeSftx ≠ cfg.params.strobeSidle ∧ cfg.params.strobeSftx ≠ cfg.params.strobeStx := by
  have hmeets := cfg.meets
  unfold Params.problem at hmeets
  split_ifs at hmeets with _ _ _ hstrobes
  simp only [allDifferent] at hstrobes
  grind

/-- Each strobe code is read as its own strobe (R82). -/
theorem decodeStrobe_strobe (cfg : Config) :
    decodeStrobe cfg cfg.params.strobeSres = .ok .sres ∧ decodeStrobe cfg cfg.params.strobeSidle = .ok .sidle ∧
    decodeStrobe cfg cfg.params.strobeStx = .ok .stx ∧ decodeStrobe cfg cfg.params.strobeSftx = .ok .sftx := by
  simp [decodeStrobe, strobes_differ cfg]

/-- A one-byte request that is not the burst header is read as a strobe. -/
theorem decodeRequest_one {cfg : Config} {header : Byte} (h : header ≠ cfg.params.txbufBurst) :
    decodeRequest cfg [header] = decodeStrobe cfg header := if_neg h

/-- A two-byte request that does not begin with the burst header is read as a register access. -/
theorem decodeRequest_two {cfg : Config} {header v : Byte} (h : header ≠ cfg.params.txbufBurst) :
    decodeRequest cfg [header, v] = decodeAccess cfg header v := if_neg h

/-- A read header has the whole read flag (R84). -/
theorem readHeader_and_readFlag (cfg : Config) (addr : Byte) :
    readHeader cfg addr &&& cfg.params.readFlag = cfg.params.readFlag := by
  unfold readHeader
  ext i hi
  simpa using .inr

/-- A read header without the flag is the address, if that has no bits of the flag. -/
theorem readHeader_clear_readFlag {cfg : Config} {addr : Byte} (h : addr &&& cfg.params.readFlag = 0) :
    readHeader cfg addr &&& ~~~cfg.params.readFlag = addr := by
  unfold readHeader
  ext i hi
  have hbit : (addr[i] && cfg.params.readFlag[i]) = false := by rw [← BitVec.getElem_and, h]; simp
  cases ha : addr[i] <;> simp_all

/-- A header with the whole read flag is the read header of what is left of it without the flag. -/
theorem readHeader_of_readFlag {cfg : Config} {header : Byte}
    (h : header &&& cfg.params.readFlag = cfg.params.readFlag) :
    readHeader cfg (header &&& ~~~cfg.params.readFlag) = header := by
  unfold readHeader
  ext i hi
  have hbit : (header[i] && cfg.params.readFlag[i]) = cfg.params.readFlag[i] := by rw [← BitVec.getElem_and, h]
  cases hf : cfg.params.readFlag[i] <;> simp_all

/-- The exchange of a register read is read back, if the flag tells a read from a write (R84). -/
theorem decodeAccess_readHeader {cfg : Config} {addr : Byte} (hflag : cfg.params.readFlag ≠ 0)
    (haddr : addr &&& cfg.params.readFlag = 0) :
    decodeAccess cfg (readHeader cfg addr) cfg.params.fill = .ok (.rreg addr) := by
  have hread : isWriteAddress cfg (readHeader cfg addr) = false := by
    simpa [isWriteAddress, readHeader_and_readFlag] using hflag
  simp [decodeAccess, hread, readHeader_and_readFlag, readHeader_clear_readFlag haddr]

/-- A request is read back as the micro-operation it was made for, where the headers are told apart (R82 to R85). -/
theorem decodeRequest_busRequest {cfg : Config} {op : BusOp} (hwf : (busInstr op).wellFormed cfg = true)
    (hdist : distinguishable cfg (busInstr op) = true) :
    decodeRequest cfg (busRequest cfg op) = .ok (busInstr op) := by
  obtain ⟨hsres, hsidle, hstx, hsftx⟩ := decodeStrobe_strobe cfg
  cases op with
  | sres => exact (decodeRequest_one (bne_iff_ne.mp hdist)).trans hsres
  | sidle => exact (decodeRequest_one (bne_iff_ne.mp hdist)).trans hsidle
  | stx => exact (decodeRequest_one (bne_iff_ne.mp hdist)).trans hstx
  | sftx => exact (decodeRequest_one (bne_iff_ne.mp hdist)).trans hsftx
  | wreg addr value => exact (decodeRequest_two (bne_iff_ne.mp hdist)).trans (if_pos hwf)
  | rreg addr =>
    simp only [busInstr, distinguishable, Bool.and_eq_true, bne_iff_ne, beq_iff_eq] at hdist
    obtain ⟨⟨hflag, haddr⟩, hburst⟩ := hdist
    exact (decodeRequest_two hburst).trans (decodeAccess_readHeader hflag haddr)
  | burstw payload => exact if_pos rfl

/-- A one-byte request that is read as a strobe is that strobe's (R82). -/
theorem encode_of_decodeStrobe {cfg : Config} {header : Byte} {i : Instr} (h : decodeStrobe cfg header = .ok i) :
    encode cfg i = some (.request [header]) ∧ i.wellFormed cfg = true := by
  unfold decodeStrobe at h
  split at h
  next hcode => cases h; exact ⟨by rw [hcode]; rfl, rfl⟩
  split at h
  next hcode => cases h; exact ⟨by rw [hcode]; rfl, rfl⟩
  split at h
  next hcode => cases h; exact ⟨by rw [hcode]; rfl, rfl⟩
  split at h
  next hcode => cases h; exact ⟨by rw [hcode]; rfl, rfl⟩
  next => cases h

/-- A two-byte request that is read as a register access is that access's (R83, R84). -/
theorem encode_of_decodeAccess {cfg : Config} {header v : Byte} {i : Instr} (h : decodeAccess cfg header v = .ok i) :
    encode cfg i = some (.request [header, v]) ∧ i.wellFormed cfg = true := by
  unfold decodeAccess at h
  split at h
  next hwrite => cases h; exact ⟨rfl, hwrite⟩
  split at h
  next hread =>
    obtain ⟨hflag, rfl⟩ := hread
    cases h
    exact ⟨by simp [encode, busRequest, readHeader_of_readFlag hflag], rfl⟩
  next => cases h

/-- A request that decodes is the request of what it decodes to (R82 to R85). -/
theorem encode_of_decodeRequest {cfg : Config} {bytes : List Byte} {i : Instr} (h : decodeRequest cfg bytes = .ok i) :
    encode cfg i = some (.request bytes) ∧ i.wellFormed cfg = true := by
  match bytes with
  | [] => cases h
  | header :: rest =>
    by_cases hburst : header = cfg.params.txbufBurst
    · simp only [decodeRequest, hburst, if_true] at h
      cases h
      exact ⟨by rw [hburst]; rfl, rfl⟩
    · match rest with
      | [] => exact encode_of_decodeStrobe (decodeRequest_one hburst ▸ h)
      | [v] => exact encode_of_decodeAccess (decodeRequest_two hburst ▸ h)
      | _ :: _ :: _ => simp [decodeRequest, hburst] at h

/-! ## The plain frame (R86) -/

/-- Byte 1 of a frame is its two nibbles, the command above the checksum (R90 a). -/
theorem nibbleInPlace_or (c d : Nibble) : nibbleInPlace c ||| d.setWidth 8 = c ++ d := by
  simpa [nibbleInPlace] using (BitVec.setWidth_append_eq_shiftLeft_setWidth_or (w'' := 8) (b := c) (b' := d)).symm

@[simp] theorem buildFrame_b0 (key : Byte) (c : Nibble) (rc : RollingCode) (addr : RemoteAddr) :
    (buildFrame key c rc addr).b0 = key := rfl

@[simp] theorem buildFrame_command (key : Byte) (c : Nibble) (rc : RollingCode) (addr : RemoteAddr) :
    (buildFrame key c rc addr).command = c := by
  simp only [Frame.command, buildFrame, nibbleInPlace_or]
  exact BitVec.extractLsb'_append_eq_left

@[simp] theorem buildFrame_check (key : Byte) (c : Nibble) (rc : RollingCode) (addr : RemoteAddr) :
    (buildFrame key c rc addr).check = checksum c rc := by
  simp only [Frame.check, buildFrame, nibbleInPlace_or]
  exact BitVec.extractLsb'_append_eq_right

@[simp] theorem buildFrame_rollingCode (key : Byte) (c : Nibble) (rc : RollingCode) (addr : RemoteAddr) :
    (buildFrame key c rc addr).rollingCode = rc :=
  BitVec.extractLsb'_append_extractLsb'

@[simp] theorem buildFrame_address (key : Byte) (c : Nibble) (rc : RollingCode) (addr : RemoteAddr) :
    (buildFrame key c rc addr).address = addr := by
  have hupper : addrHigh addr ++ addrMid addr = addr.extractLsb' 8 16 :=
    BitVec.extractLsb'_append_extractLsb'_eq_extractLsb' rfl
  calc addrHigh addr ++ addrMid addr ++ addrLow addr = addr.extractLsb' 8 16 ++ addr.extractLsb' 0 8 := by
        rw [hupper]; rfl
    _ = addr := BitVec.extractLsb'_append_extractLsb'

/-- A frame whose checksum is right is built from its own fields (R112). -/
theorem buildFrame_of_check {f : Frame} (h : f.check = checksum f.command f.rollingCode) :
    buildFrame f.b0 f.command f.rollingCode f.address = f := by
  have hb1 : nibbleInPlace f.command ||| (checksum f.command f.rollingCode).setWidth 8 = f.b1 := by
    rw [nibbleInPlace_or, ← h]
    exact BitVec.extractLsb'_append_extractLsb'
  have hb2 : rcHigh f.rollingCode = f.b2 := BitVec.extractLsb'_append_eq_left
  have hb3 : rcLow f.rollingCode = f.b3 := BitVec.extractLsb'_append_eq_right
  have hb4 : addrHigh f.address = f.b4 :=
    (BitVec.extractLsb'_append_eq_of_le (by decide)).trans BitVec.extractLsb'_append_eq_left
  have hb5 : addrMid f.address = f.b5 :=
    (BitVec.extractLsb'_append_eq_of_le (by decide)).trans BitVec.extractLsb'_append_eq_right
  have hb6 : addrLow f.address = f.b6 := BitVec.extractLsb'_append_eq_right
  simp only [buildFrame, hb1, hb2, hb3, hb4, hb5, hb6]

/-- A frame that decodes is the frame of the command it decodes to (R86, R116 to R119). -/
theorem encode_of_decodeFrame {f : Frame} {i : Instr} (h : decodeFrame f = .ok i) (cfg : Config) :
    encode cfg i = some (.frame f) ∧ i.wellFormed cfg = true := by
  unfold decodeFrame at h
  split at h
  next => cases h
  next hcheck =>
    have hbuilt := buildFrame_of_check (not_not.mp hcheck)
    split at h
    next hcode => cases h; exact ⟨by rw [hcode] at hbuilt; simp only [encode, hbuilt], rfl⟩
    split at h
    next hcode => cases h; exact ⟨by rw [hcode] at hbuilt; simp only [encode, hbuilt], rfl⟩
    split at h
    next hcode => cases h; exact ⟨by rw [hcode] at hbuilt; simp only [encode, hbuilt], rfl⟩
    split at h
    next hcode => cases h; exact ⟨by rw [hcode] at hbuilt; simp only [encode, hbuilt], rfl⟩
    next => cases h

/-! ## Decoding and encoding -/

/-- Settles O2, space by space. -/
theorem encodeOfDecode : Obligations.EncodeOfDecode := by
  unfold Obligations.EncodeOfDecode
  intro cfg e i h
  cases e with
  | hostByte b => exact encode_of_decodeOp h cfg
  | request bytes => exact encode_of_decodeRequest h
  | frame f => exact encode_of_decodeFrame h cfg

/-- Settles O1: a host operation's byte by evaluation, a request by `decodeRequest_busRequest`, a frame by the fields it was
built from; the other operations have no word. -/
theorem decodeOfEncode : Obligations.DecodeOfEncode := by
  unfold Obligations.DecodeOfEncode
  intro cfg i e hwf hdist h
  cases i with
  | init | sendStop | sendUp | sendDown | sendProg => cases h; rfl
  | sres => cases h; exact decodeRequest_busRequest (op := .sres) hwf hdist
  | sidle => cases h; exact decodeRequest_busRequest (op := .sidle) hwf hdist
  | stx => cases h; exact decodeRequest_busRequest (op := .stx) hwf hdist
  | sftx => cases h; exact decodeRequest_busRequest (op := .sftx) hwf hdist
  | wreg addr value => cases h; exact decodeRequest_busRequest (op := .wreg addr value) hwf hdist
  | rreg addr => cases h; exact decodeRequest_busRequest (op := .rreg addr) hwf hdist
  | burstw payload => cases h; exact decodeRequest_busRequest (op := .burstw payload) hwf hdist
  | stop key rc addr | up key rc addr | down key rc addr | prog key rc addr =>
    cases h
    simp [decode, decodeFrame]
  | cksum | build | obf | deobf | encode | decode | compose | wait => cases h

/-- Settles O3: each of the seven words by evaluation. -/
theorem specWordsDecode : Obligations.SpecWordsDecode :=
  ⟨rfl, rfl, rfl, rfl, rfl, rfl, rfl⟩

end Sys2Proof.Machine
end

section
/-!
SUPPORT. The Frame Codec (40_frame_codec.md): the checksum in closed form, obfuscation as the running exclusive or of the
plain bytes and its inverse, and what the codec's operations deliver (R111 to R123).
-/

namespace Sys2Proof.Machine

/-- A pure function's value is all that its instruction changes (R110, LOG 10). -/
theorem State.next_deliver_of_eq (s : State) {bytes bytes' : List Byte} (h : bytes = bytes') :
    (Host.Outcome.next (s.deliver bytes) : Host.Outcome State Fault Refusal) = .next { s with out := bytes' } := by
  rw [h, State.deliver]

/-! ## CKSUM (R111, R121 a) -/

theorem nibbleInPlace_low (c : Nibble) : (nibbleInPlace c).extractLsb' 0 4 = 0#4 := by
  revert c; decide

theorem nibbleInPlace_shifted_low (c : Nibble) : (nibbleInPlace c >>> 4).extractLsb' 0 4 = c := by
  revert c; decide

theorem checksum_eq (c : Nibble) (rc : RollingCode) :
    checksum c rc = c ^^^ (rcLow rc ^^^ rcHigh rc).extractLsb' 0 4 := by
  simp only [checksum, BitVec.extractLsb'_xor, nibbleInPlace_low, nibbleInPlace_shifted_low, BitVec.zero_xor,
    BitVec.xor_assoc]

theorem extractLsb'_eq_ofNat_div {w : Nat} (x : BitVec w) (start len : Nat) :
    x.extractLsb' start len = BitVec.ofNat len (x.toNat / 2 ^ start) := by
  rw [BitVec.extractLsb', Nat.shiftRight_eq_div_pow]

theorem toNat_checksum (c : Nibble) (rc : RollingCode) :
    (checksum c rc).toNat = c.toNat ^^^ rc.toNat % 16 ^^^ rc.toNat / 256 % 16 := by
  have hlow : ((rcLow rc).extractLsb' 0 4).toNat = rc.toNat % 16 := by
    simp [rcLow, extractLsb'_eq_ofNat_div]
  have hhigh : ((rcHigh rc).extractLsb' 0 4).toNat = rc.toNat / 256 % 16 := by
    simp [rcHigh, extractLsb'_eq_ofNat_div]
  rw [checksum_eq, BitVec.extractLsb'_xor, BitVec.toNat_xor, BitVec.toNat_xor, hlow, hhigh, Nat.xor_assoc]

theorem checksum_xor_checksum (c c' : Nibble) (rc : RollingCode) : checksum c rc ^^^ checksum c' rc = c ^^^ c' := by
  rw [checksum_eq, checksum_eq, BitVec.xor_comm c', ← BitVec.xor_assoc, BitVec.xor_assoc c, BitVec.xor_self,
    BitVec.xor_zero]

/-- Settles O5: the value delivered is the checksum's closed form. -/
theorem cksumDelivers : Obligations.CksumDelivers := by
  unfold Obligations.CksumDelivers
  intro s c rc
  refine s.next_deliver_of_eq ?_
  rw [← toNat_checksum, BitVec.ofNat_toNat]

/-! ## BUILD (R112) -/

theorem nibbleInPlace_or_eq_ofNat (c d : Nibble) :
    nibbleInPlace c ||| d.setWidth 8 = BitVec.ofNat 8 (16 * c.toNat + d.toNat) := by
  have hnat : (c ++ d).toNat = 16 * c.toNat + d.toNat := by
    rw [BitVec.toNat_append, ← Nat.shiftLeft_add_eq_or_of_lt d.isLt, Nat.shiftLeft_eq, Nat.mul_comm]
  rw [nibbleInPlace_or, ← hnat, BitVec.ofNat_toNat, BitVec.setWidth_eq]

theorem toBytes_buildFrame (key : Byte) (c : Nibble) (rc : RollingCode) (addr : RemoteAddr) :
    (buildFrame key c rc addr).toBytes =
      [key, BitVec.ofNat 8 (16 * c.toNat + (checksum c rc).toNat), BitVec.ofNat 8 (rc.toNat / 256),
        BitVec.ofNat 8 rc.toNat, BitVec.ofNat 8 (addr.toNat / 65536), BitVec.ofNat 8 (addr.toNat / 256),
        BitVec.ofNat 8 addr.toNat] := by
  simp [Frame.toBytes, buildFrame, nibbleInPlace_or_eq_ofNat, rcHigh, rcLow, addrHigh, addrMid, addrLow,
    extractLsb'_eq_ofNat_div]

/-- Settles O6: the fields most significant byte first, the checksum in closed form. -/
theorem buildDelivers : Obligations.BuildDelivers := by
  unfold Obligations.BuildDelivers
  intro s key c rc addr
  refine s.next_deliver_of_eq ?_
  rw [toBytes_buildFrame, toNat_checksum]

/-! ## OBF and DEOBF (R113, R115, R121) -/

theorem toBytes_obfuscate (p : Frame) : (obfuscate p).toBytes =
    [p.b0, p.b0 ^^^ p.b1, p.b0 ^^^ p.b1 ^^^ p.b2, p.b0 ^^^ p.b1 ^^^ p.b2 ^^^ p.b3,
      p.b0 ^^^ p.b1 ^^^ p.b2 ^^^ p.b3 ^^^ p.b4, p.b0 ^^^ p.b1 ^^^ p.b2 ^^^ p.b3 ^^^ p.b4 ^^^ p.b5,
      p.b0 ^^^ p.b1 ^^^ p.b2 ^^^ p.b3 ^^^ p.b4 ^^^ p.b5 ^^^ p.b6] := by
  simp only [Frame.toBytes, obfuscate, BitVec.xor_comm]

theorem toBytes_deobfuscate (o : Frame) : (deobfuscate o).toBytes =
    [o.b0, o.b0 ^^^ o.b1, o.b1 ^^^ o.b2, o.b2 ^^^ o.b3, o.b3 ^^^ o.b4, o.b4 ^^^ o.b5, o.b5 ^^^ o.b6] := by
  simp only [Frame.toBytes, deobfuscate, BitVec.xor_comm]

theorem deobfuscate_obfuscate (p : Frame) : deobfuscate (obfuscate p) = p := by
  simp only [obfuscate, deobfuscate, BitVec.xor_assoc, BitVec.xor_self, BitVec.xor_zero]

theorem obfuscate_deobfuscate (o : Frame) : obfuscate (deobfuscate o) = o := by
  simp only [obfuscate, deobfuscate, BitVec.xor_assoc, BitVec.xor_self, BitVec.xor_zero]

/-- Settles O7: the running exclusive or, written out index by index. -/
theorem obfDelivers : Obligations.ObfDelivers := by
  unfold Obligations.ObfDelivers
  intro s p
  exact s.next_deliver_of_eq (toBytes_obfuscate p)

/-- Settles O8: neighbours differ by the plain byte, so one exclusive or takes the other away. -/
theorem deobfUndoesObf : Obligations.DeobfUndoesObf := by
  unfold Obligations.DeobfUndoesObf
  exact ⟨fun s o => s.next_deliver_of_eq (toBytes_deobfuscate o), deobfuscate_obfuscate, obfuscate_deobfuscate⟩

/-- Obfuscation is the running exclusive or of the plain bytes, from the first byte on (R113). -/
theorem toBytes_obfuscate_eq_scanl (p : Frame) :
    (obfuscate p).toBytes = (p.toBytes.scanl (fun x y => x ^^^ y) 0).tail := by
  rw [toBytes_obfuscate]
  simp [Frame.toBytes]

theorem toBytes_obfuscate_getElem? (p : Frame) {n : Nat} (hn : n < 7) :
    (obfuscate p).toBytes[n]? = some ((p.toBytes.take (n + 1)).foldl (fun x y => x ^^^ y) 0) := by
  rw [toBytes_obfuscate_eq_scanl, List.getElem?_tail, List.getElem?_scanl, if_pos (show n + 1 ≤ p.toBytes.length from hn)]

/-- A change of one byte by `d` changes the exclusive or of all bytes by `d`, whatever it starts from. -/
theorem foldl_xor_modify {bytes : List Byte} {n : Nat} (hn : n < bytes.length) (d start : Byte) :
    (bytes.modify n (fun x => x ^^^ d)).foldl (fun x y => x ^^^ y) start =
      bytes.foldl (fun x y => x ^^^ y) start ^^^ d := by
  induction bytes generalizing n start with
  | nil => exact absurd hn (Nat.not_lt_zero n)
  | cons b rest ih =>
    cases n with
    | zero =>
      have hpast (x y : Byte) : x ^^^ d ^^^ y = x ^^^ y ^^^ d := by ac_rfl
      rw [List.modify_zero_cons, List.foldl_cons, List.foldl_cons, ← BitVec.xor_assoc]
      exact List.foldl_hom (fun x => x ^^^ d) hpast
    | succ n => exact ih (Nat.lt_of_succ_lt_succ hn) (start ^^^ b)

theorem toBytes_obfuscate_of_modify {p q : Frame} {d : Byte} {n m : Nat}
    (hq : q.toBytes = p.toBytes.modify n (fun x => x ^^^ d)) (hm : m < 7) :
    (obfuscate q).toBytes[m]? = (obfuscate p).toBytes[m]?.map (fun x => if n ≤ m then x ^^^ d else x) := by
  rw [toBytes_obfuscate_getElem? q hm, toBytes_obfuscate_getElem? p hm, hq, List.take_modify, Option.map_some]
  have hlen : (p.toBytes.take (m + 1)).length = m + 1 := List.length_take_of_le hm
  split
  next hnm => rw [foldl_xor_modify (by omega)]
  next hnm => rw [List.modify_eq_self (by omega)]

/-- Settles O10, form by form. -/
theorem codecClosedForms : Obligations.CodecClosedForms := by
  unfold Obligations.CodecClosedForms
  exact ⟨checksum_eq, fun p _ => toBytes_obfuscate_getElem? p, checksum_xor_checksum,
    fun _ _ _ _ _ hq _ => toBytes_obfuscate_of_modify hq⟩

/-! ## FRAME and the four commands (R114, R116 to R119, R123) -/

/-- Settles O9: the frame of each command, with its code evaluated in place (R90 a). -/
theorem commandsDeliverTheirFrames : Obligations.CommandsDeliverTheirFrames := by
  unfold Obligations.CommandsDeliverTheirFrames
  intro s key rc addr plain
  have hframe {c : Nibble} {top : Byte} (htop : nibbleInPlace c = top) :
      (frameOf key c rc addr).toBytes = (obfuscate (plain top c)).toBytes := by
    rw [← htop]; rfl
  exact ⟨s.next_deliver_of_eq (hframe rfl), s.next_deliver_of_eq (hframe rfl), s.next_deliver_of_eq (hframe rfl),
    s.next_deliver_of_eq (hframe rfl)⟩

/-- A frame carries its rolling code: the obfuscation can be undone (R123 b, R115). -/
theorem frameOf_rollingCode (key : Byte) (c : Nibble) (rc : RollingCode) (addr : RemoteAddr) :
    (deobfuscate (frameOf key c rc addr)).rollingCode = rc := by
  rw [frameOf, deobfuscate_obfuscate, buildFrame_rollingCode]

/-- Settles O11: equal frames carry equal rolling codes, and no code is its own successor, the wrap included. -/
theorem successiveFramesDiffer : Obligations.SuccessiveFramesDiffer := by
  unfold Obligations.SuccessiveFramesDiffer
  intro key c rc addr h
  have hrc : rc = rc + 1 := by
    simpa only [frameOf_rollingCode] using congrArg (fun f => (deobfuscate f).rollingCode) h
  bv_omega

end Sys2Proof.Machine
end

section
/-!
SUPPORT. The Line Encoder (41_line_encoder.md): the symbol of a bit and the bits of a byte read back, the line code byte
by byte, and that encoding and decoding undo each other (R141 to R144).
-/

namespace Sys2Proof.Machine

/-! ## Symbols and bits (R88, R56) -/

/-- R6 (a): the two symbol bytes differ. -/
theorem symOne_ne_symZero (cfg : Config) : cfg.params.symOne ≠ cfg.params.symZero := by
  intro heq
  have hmeets := cfg.meets
  rw [Params.problem, if_pos heq] at hmeets
  cases hmeets

theorem bitOf_symbolOf (cfg : Config) (bit : Bool) : bitOf cfg (symbolOf cfg bit) = bit := by
  cases bit with
  | false => exact beq_false_of_ne (symOne_ne_symZero cfg).symm
  | true => exact beq_self_eq_true _

theorem symbolOf_bitOf {cfg : Config} {symbol : Byte}
    (h : symbol = cfg.params.symOne ∨ symbol = cfg.params.symZero) : symbolOf cfg (bitOf cfg symbol) = symbol := by
  obtain rfl | rfl := h
  · exact congrArg (symbolOf cfg) (bitOf_symbolOf cfg true)
  · exact congrArg (symbolOf cfg) (bitOf_symbolOf cfg false)

theorem byteOfBits_getLsbD (b : Byte) :
    byteOfBits (b.getLsbD 7) (b.getLsbD 6) (b.getLsbD 5) (b.getLsbD 4) (b.getLsbD 3) (b.getLsbD 2) (b.getLsbD 1)
      (b.getLsbD 0) = b := by
  revert b; decide

theorem bitsOf_byteOfBits (b7 b6 b5 b4 b3 b2 b1 b0 : Bool) :
    bitsOf (byteOfBits b7 b6 b5 b4 b3 b2 b1 b0) = [b7, b6, b5, b4, b3, b2, b1, b0] := by
  revert b7 b6 b5 b4 b3 b2 b1 b0; decide

theorem bitsOf_getElem? (byte : Byte) {b : Nat} (hb : b < 8) : (bitsOf byte)[7 - b]? = some (byte.getLsbD b) := by
  interval_cases b <;> rfl

/-! ## ENCODE (R141, R143) -/

theorem encodeLine_cons (cfg : Config) (byte : Byte) (rest : List Byte) :
    encodeLine cfg (byte :: rest) = (bitsOf byte).map (symbolOf cfg) ++ encodeLine cfg rest := rfl

theorem encodeLine_append (cfg : Config) (xs ys : List Byte) :
    encodeLine cfg (xs ++ ys) = encodeLine cfg xs ++ encodeLine cfg ys := List.flatMap_append

theorem encodeLine_getElem? (cfg : Config) {bytes : List Byte} {j b : Nat} (hj : j < bytes.length) (hb : b < 8) :
    (encodeLine cfg bytes)[8 * j + (7 - b)]? = some (symbolOf cfg (bytes[j].getLsbD b)) := by
  induction bytes generalizing j with
  | nil => exact absurd hj (Nat.not_lt_zero j)
  | cons byte rest ih =>
    have hlen : ((bitsOf byte).map (symbolOf cfg)).length = 8 := rfl
    rw [encodeLine_cons]
    cases j with
    | zero =>
      rw [List.getElem?_append_left (by omega), Nat.mul_zero, Nat.zero_add, List.getElem?_map, bitsOf_getElem? byte hb]
      rfl
    | succ j =>
      have hplace : 8 * (j + 1) + (7 - b) - 8 = 8 * j + (7 - b) := by omega
      rw [List.getElem?_append_right (by omega), hlen, hplace]
      exact ih (Nat.lt_of_succ_lt_succ hj)

/-- Settles O12: the place is found byte by byte, the symbol within the byte's eight. -/
theorem encodeDelivers : Obligations.EncodeDelivers := by
  unfold Obligations.EncodeDelivers
  exact fun s bytes => ⟨rfl, fun _ _ hj hb => encodeLine_getElem? s.cfg hj hb⟩

/-- Settles O13: `length_encodeLine`, of any list and of a frame's seven bytes. -/
theorem lineCodeIsEightTimesAsLong : Obligations.LineCodeIsEightTimesAsLong := by
  unfold Obligations.LineCodeIsEightTimesAsLong
  intro cfg bytes
  refine ⟨length_encodeLine cfg bytes, fun f => ?_⟩
  have hframe : (encodeLine cfg f.toBytes).length = 56 := length_encodeLine cfg f.toBytes
  exact ⟨hframe, by rw [hframe]⟩

/-! ## DECODE (R142, R144) -/

theorem inDecodeDomain_iff {cfg : Config} {symbols : List Byte} : inDecodeDomain cfg symbols = true ↔
    symbols.length % 8 = 0 ∧ ∀ b ∈ symbols, b = cfg.params.symOne ∨ b = cfg.params.symZero := by
  simp [inDecodeDomain]

/-- The first eight symbols are read as the byte they are the line code of. -/
theorem decodeLine_symbols_append (cfg : Config) (byte : Byte) (rest : List Byte) :
    decodeLine cfg ((bitsOf byte).map (symbolOf cfg) ++ rest) = byte :: decodeLine cfg rest := by
  simp only [bitsOf, List.map_cons, List.map_nil, List.cons_append, List.nil_append, decodeLine, bitOf_symbolOf,
    byteOfBits_getLsbD]

theorem decodeLine_encodeLine (cfg : Config) (bytes : List Byte) : decodeLine cfg (encodeLine cfg bytes) = bytes := by
  induction bytes with
  | nil => rfl
  | cons byte rest ih => rw [encodeLine_cons, decodeLine_symbols_append, ih]

theorem encodeLine_decodeLine {cfg : Config} {symbols : List Byte} (h : inDecodeDomain cfg symbols = true) :
    encodeLine cfg (decodeLine cfg symbols) = symbols := by
  rw [inDecodeDomain_iff] at h
  obtain ⟨hlen, hsymbols⟩ := h
  fun_induction decodeLine cfg symbols with
  | case1 s7 s6 s5 s4 s3 s2 s1 s0 rest ih =>
    simp only [List.forall_mem_cons] at hsymbols
    obtain ⟨h7, h6, h5, h4, h3, h2, h1, h0, hrest⟩ := hsymbols
    have hlenRest : rest.length % 8 = 0 := (Nat.add_mod_right rest.length 8).symm.trans hlen
    rw [encodeLine_cons, bitsOf_byteOfBits, ih hlenRest hrest]
    simp [symbolOf_bitOf, h7, h6, h5, h4, h3, h2, h1, h0]
  | case2 symbols hshort =>
    -- One to seven symbols are no multiple of eight, so the list is empty.
    match symbols, hshort, hlen with
    | [], _, _ => rfl
    | _ :: _ :: _ :: _ :: _ :: _ :: _ :: _ :: _, hshort, _ => exact (hshort _ _ _ _ _ _ _ _ _ rfl).elim

/-- Settles O14: the three laws, each by its own lemma. -/
theorem lineCodeRoundTrips : Obligations.LineCodeRoundTrips := by
  unfold Obligations.LineCodeRoundTrips
  exact fun cfg => ⟨decodeLine_encodeLine cfg, fun _ => encodeLine_decodeLine, encodeLine_append cfg⟩

/-- Settles O15: on its domain DECODE inverts ENCODE, and the two clauses say inside and outside of the domain. -/
theorem decodeDeliversOrStops : Obligations.DecodeDeliversOrStops := by
  unfold Obligations.DecodeDeliversOrStops
  refine fun s symbols => ⟨?inside, ?outside⟩
  case inside =>
    intro hlen hsymbols
    have hdomain : inDecodeDomain s.cfg symbols = true := inDecodeDomain_iff.mpr ⟨hlen, hsymbols⟩
    exact ⟨decodeLine s.cfg symbols, encodeLine_decodeLine hdomain, if_pos hdomain⟩
  case outside =>
    intro hbad
    have hdomain : ¬ inDecodeDomain s.cfg symbols = true := by
      rw [inDecodeDomain_iff]
      rintro ⟨hlen, hsymbols⟩
      obtain hlen' | ⟨b, hb, hone, hzero⟩ := hbad
      · exact hlen' hlen
      · exact (hsymbols b hb).elim hone hzero
    exact if_neg hdomain

end Sys2Proof.Machine
end

section
/-!
SUPPORT. The transceiver interface (42_transceiver_interface.md): the state each bus micro-operation, a failed exchange
and a wait leave, and the device's own move.
-/

namespace Sys2Proof.Machine

/-! ## The device's effects (R165 to R173) -/

/-- SIDLE idles a device in IDLE or TRANSMIT; in RESET or UNKNOWN its effect is unspecified (R167, R173). -/
theorem Dev.act_sidle (d : Draw) (dev : Dev) :
    dev.act .sidle d = if dev.mode = .idle ∨ dev.mode = .transmit then { dev with mode := .idle }
      else dev.unspecified d := by
  cases hm : dev.mode <;> simp [Dev.act, hm]

theorem Dev.airOf_sidle (d : Draw) (dev : Dev) :
    dev.airOf .sidle d = if dev.mode = .idle ∨ dev.mode = .transmit then [] else d.air := by
  cases hm : dev.mode <;> simp [Dev.airOf, hm]

/-- What the air becomes where an effect the rules give sends `given`, and an unspecified one what is drawn (U3). -/
theorem append_sent {c : Prop} [Decidable c] (air given drawn : List (List Byte)) :
    air ++ (if c then given else drawn) = if c then air ++ given else air ++ drawn :=
  apply_ite (air ++ ·) c given drawn

/-- An effect the rules give sends nothing, but for STX. -/
theorem append_sent_nil {c : Prop} [Decidable c] (air drawn : List (List Byte)) :
    air ++ (if c then [] else drawn) = if c then air else air ++ drawn := by
  rw [append_sent, List.append_nil]

/-- Byte 1 of the answer to a register read is the device's where R171 gives it, else the transport's. -/
theorem Dev.respond_rreg (cfg : Config) (addr r0 r1 : Byte) (dev : Dev) :
    dev.respond cfg (.rreg addr) [r0, r1] = [r0, (dev.readAnswer cfg addr).getD r1] := by
  cases hanswer : dev.readAnswer cfg addr <;> simp [Dev.respond, hanswer]

theorem Dev.readAnswer_getD (cfg : Config) (addr r1 : Byte) (dev : Dev) :
    (dev.readAnswer cfg addr).getD r1 =
      if dev.mode = .idle then
        if addr = cfg.params.idReg then dev.id else (dev.regs.read? addr.toNat).getD r1
      else r1 := by
  unfold Dev.readAnswer
  split_ifs <;> rfl

/-! ## The exchange answered (R150, R152 to R159) -/

/-- A micro-operation that drops the response, answered in full, leaves the device's effect, the exchange in the trace and
the micro-step over (R154). -/
theorem exec_answered {s : State} {op : BusOp} (hop : ∀ a, op ≠ .rreg a) {resp : List Byte}
    (hreply : s.nextDraw.reply = .bytes resp) (hlen : resp.length = (busRequest s.cfg op).length)
    {dev : Dev} (hdev : s.dev.act op s.nextDraw = dev)
    {air : List (List Byte)} (hair : s.air ++ s.dev.airOf op s.nextDraw = air) :
    exec (busInstr op) s = .next (State.proceed { s with
      dev := dev
      air := air
      trace := s.trace ++ [.exchange (busRequest s.cfg op) (.ok resp)]
      env := s.env.tail
      drawn := s.drawn + 1 }) := by
  subst hdev hair
  rw [exec_busInstr, State.exchange_returns hreply hlen, useOf_of_not_rreg hop, State.exchangeReturns,
    Dev.respond_of_not_rreg hop]
  rfl

/-- Settles O24: of the seven SRES alone has an effect that does not depend on the mode, and it sends nothing. -/
theorem sresCompletes : Obligations.SresCompletes := by
  unfold Obligations.SresCompletes
  exact fun s r h => exec_answered (op := .sres) nofun h rfl rfl (List.append_nil s.air)

/-- Settles O25: the effect in IDLE and TRANSMIT is `Dev.act_sidle`'s first branch. -/
theorem sidleCompletes : Obligations.SidleCompletes := by
  unfold Obligations.SidleCompletes
  intro s r h
  refine exec_answered (op := .sidle) nofun h rfl (Dev.act_sidle _ _) ?_
  rw [Dev.airOf_sidle, append_sent_nil]

/-- Settles O26: in IDLE the buffer is what goes on the air. -/
theorem stxCompletes : Obligations.StxCompletes := by
  unfold Obligations.StxCompletes
  exact fun s r h => exec_answered (op := .stx) nofun h rfl rfl (append_sent s.air _ _)

/-- Settles O27: the effect is `Dev.act`'s own case split on IDLE, which sends nothing there. -/
theorem sftxCompletes : Obligations.SftxCompletes := by
  unfold Obligations.SftxCompletes
  exact fun s r h => exec_answered (op := .sftx) nofun h rfl rfl (append_sent_nil s.air _)

/-- Settles O28: the registers by the laws of a read after a write. -/
theorem wregCompletes : Obligations.WregCompletes := by
  unfold Obligations.WregCompletes
  exact fun s addr value r0 r1 h =>
    ⟨exec_answered (op := .wreg addr value) nofun h rfl rfl (append_sent_nil s.air _),
      Memory.read?_write_same _ _ _, fun _ => Memory.read?_write_other _ _⟩

/-- Settles O30: one exchange, whatever the payload's length. -/
theorem burstwCompletes : Obligations.BurstwCompletes := by
  unfold Obligations.BurstwCompletes
  exact fun s payload resp h hlen =>
    exec_answered (op := .burstw payload) nofun h hlen rfl (append_sent_nil s.air _)

/-- Settles O29: the value read is the device's answer, or the transport's byte 1 (`Dev.respond_rreg`). -/
theorem rregCompletes : Obligations.RregCompletes := by
  unfold Obligations.RregCompletes
  intro s addr r0 r1 h v
  have hanswer : s.dev.respond s.cfg (.rreg addr) [r0, r1] = [r0, v] := by
    rw [Dev.respond_rreg, Dev.readAnswer_getD]
  have hair : s.air ++ s.dev.airOf (.rreg addr) s.nextDraw =
      if s.dev.mode = .idle then s.air else s.air ++ s.nextDraw.air := append_sent_nil s.air _
  have hexchange : exec (.rreg addr) s = .next (s.exchange (.rreg addr) takeReadValue) := rfl
  rw [hexchange, State.exchange_returns h rfl, State.exchangeReturns, State.drawNext_dev, State.drawNext_cfg, hanswer,
    ← hair]
  rfl

/-! ## The exchange failed (R151, R174) -/

/-- A failing draw makes the exchange fail (R150, D28). -/
theorem State.exchange_fails {s : State} {op : BusOp} {use : List Byte → State → State}
    (h : failing (busRequest s.cfg op) s.nextDraw = true) :
    s.exchange op use = s.drawNext.exchangeFails op s.nextDraw := by
  obtain ⟨hreply, -⟩ | ⟨-, hfails⟩ | ⟨resp, hreply, hlen, -⟩ := s.exchange_cases op use
  · simp [failing, hreply] at h
  · exact hfails
  · simp [failing, hreply, hlen] at h

/-- Settles O32: the seven micro-operations fail alike (`State.exchange_fails`), the device having acted or not. -/
theorem failedExchangeAborts : Obligations.FailedExchangeAborts := by
  unfold Obligations.FailedExchangeAborts
  intro s op h
  rw [exec_busInstr, State.exchange_fails h, State.exchangeFails]
  cases s.nextDraw.acted <;> rfl

/-! ## The wait and the device's own move (R160, R166, R169) -/

/-- Settles O31: both ends of a step of a wait are `State.waitFor_cases`'s. -/
theorem waitCompletes : Obligations.WaitCompletes := by
  unfold Obligations.WaitCompletes
  intro s t left dev trace
  obtain ⟨u, _, hu, rfl, hcases⟩ := s.waitFor_cases t
  have hbegun : u = { s.drawNext with trace := trace } := by
    rw [hu]
    dsimp only [trace]
    split <;> rfl
  have hmoved : (if s.nextDraw.settled then u.deviceMoves else u) = { s.drawNext with dev := dev, trace := trace } := by
    rw [hbegun]
    dsimp only [dev]
    split <;> rfl
  rw [hmoved] at hcases
  refine ⟨fun hle => ?ends, fun hlt => ?runsOn⟩
  case ends =>
    obtain ⟨-, h⟩ | ⟨hlt, -⟩ := hcases
    · exact congrArg Host.Outcome.next h
    · exact absurd hle (Nat.not_le.mpr hlt)
  case runsOn =>
    obtain ⟨hle, -⟩ | ⟨-, h⟩ := hcases
    · exact absurd hle (Nat.not_le.mpr hlt)
    · exact congrArg Host.Outcome.next h

/-- Out of RESET and TRANSMIT the device moves to IDLE (R166, R169). -/
theorem Dev.ownMove_of_settling {dev : Dev} (h : dev.mode = .reset ∨ dev.mode = .transmit) :
    dev.ownMove = { dev with mode := .idle } := by
  obtain h | h := h <;> simp [Dev.ownMove, h]

/-- In another mode it has no move of its own. -/
theorem Dev.ownMove_of_staying {dev : Dev} (h : dev.mode = .idle ∨ dev.mode = .unknown) : dev.ownMove = dev := by
  obtain h | h := h <;> simp [Dev.ownMove, h]

/-- Settles O47: the device's turn is its own move (`Dev.ownMove_of_settling`, `Dev.ownMove_of_staying`). -/
theorem deviceMovesByItself : Obligations.DeviceMovesByItself := by
  unfold Obligations.DeviceMovesByItself
  intro s rest hturns
  rw [step_turn hturns]
  refine ⟨fun h => ?_, fun h => ?_⟩
  · simp only [State.take, State.deviceMoves, Dev.ownMove_of_settling h]
  · simp only [State.take, State.deviceMoves, Dev.ownMove_of_staying h]

/-! ## INIT accepted and ended (R161, R163) -/

/-- Settles O17: with BUSY = 0 the old outcome is cleared, and with INITD = 0 INIT is accepted. -/
theorem initStarts : Obligations.InitStarts := by
  unfold Obligations.InitStarts
  intro s hbusy hinitd
  have hexec : exec .init s = .next (s.writeOp State.acceptInit) := rfl
  rw [hexec, State.writeOp_idle _ hbusy]
  obtain ⟨hrefused, -⟩ | ⟨-, haccepted⟩ := s.clearOutcome.acceptInit_cases
  · rw [State.clearOutcome_status, Status.clearOutcome_initd, hinitd] at hrefused
    cases hrefused
  · rw [haccepted]
    rfl

/-- At I3 the operation due is the identification read (R161). -/
theorem State.microOp_at_i3 {s : State} (h : s.sp = .i3) : s.microOp = some (.rreg s.cfg.params.idReg) := by
  simp [State.microOp, h]

/-- With no turn listed a step is the operation SP is at (R9, R198). -/
theorem step_of_microOp {s : State} {i : Instr} (hturns : s.turns = []) (hop : s.microOp = some i) :
    step s = exec i s := by
  rw [step_sequencer hturns, State.microStep_of_microOp hop]

/-- Settles O40: the step is the read of ID_REG (`rregCompletes`), after which INIT ends (`State.proceed_at_i3`). -/
theorem initEnds : Obligations.InitEnds := by
  unfold Obligations.InitEnds
  intro s r0 r1 hturns hsp hreply
  have hstep := (step_of_microOp hturns (State.microOp_at_i3 hsp)).trans (rregCompletes s _ r0 r1 hreply)
  rw [State.proceed_at_i3 (by exact hsp)] at hstep
  exact ⟨_, hstep, rfl, rfl, fun hidle => by simp [hidle], rfl, rfl, rfl, rfl⟩

/-! ## The microprograms (R161, R193, R194) -/

/-- One transmission performs its load, strobe, wait and, but for the last, gap. -/
theorem txPositions_perform (s : State) (k : Fin 9) :
    (txPositions k).filterMap (fun p => State.microOp { s with sp := p }) = txFrame s.bufs.txbuf k := by
  by_cases hgap : k.val < 8
  · simp [txPositions, txFrame, State.microOp, hgap, Nat.le_of_lt_succ hgap]
  · simp [txPositions, txFrame, State.microOp, hgap, show ¬ k.val ≤ 7 by omega]

/-- At a table position the operation due is the entry's write, where the table has the entry. -/
theorem State.microOp_at_i2 {s : State} {j : Nat} (h : s.sp = .i2 j) :
    s.microOp = s.cfg.params.cfgTable[j]?.map (fun e => .wreg e.1 e.2) := by
  simp only [State.microOp, h]
  cases s.cfg.params.cfgTable[j]? <;> rfl

/-- Reading a list at its own indices, in order, gives its elements. -/
theorem filterMap_range_getElem? {α β : Type} (f : α → β) (l : List α) :
    (List.range l.length).filterMap (fun j => l[j]?.map f) = l.map f := by
  induction l with
  | nil => rfl
  | cons x xs ih => simpa [List.range_succ_eq_map, List.filterMap_map, Function.comp_def] using ih

/-- The positions of the table perform its writes in order. -/
theorem tablePositions_perform (s : State) :
    ((List.range s.cfg.params.nCfg).map Pos.i2).filterMap (fun p => State.microOp { s with sp := p }) =
      s.cfg.params.cfgTable.map (fun e => .wreg e.1 e.2) := by
  rw [List.filterMap_map, ← filterMap_range_getElem?]
  exact List.filterMap_congr fun j _ => State.microOp_at_i2 (s := { s with sp := .i2 j }) rfl

/-- Settles O37: position by position, the table and the nine transmissions by their own lemmas. -/
theorem positionsPerformTheMicroprograms : Obligations.PositionsPerformTheMicroprograms := by
  unfold Obligations.PositionsPerformTheMicroprograms
  refine fun s => ⟨?init, ?send⟩
  case init =>
    rw [initPositions, List.filterMap_append, List.filterMap_append, tablePositions_perform]
    rfl
  case send =>
    rw [sendPositions, List.filterMap_append, List.filterMap_append, List.filterMap_flatMap]
    simp only [txPositions_perform]
    exact List.append_nil _

end Sys2Proof.Machine
end

section
/-!
SUPPORT. A bring-up in which every exchange is answered (42_transceiver_interface.md R161): one step a position, and what
holds of the state after each table write.
-/

namespace Sys2Proof.Machine

/-! ## Runs and good draws -/

/-- A run goes on from the state after its first step. -/
theorem core_run_succ {s t : State} (h : step s = .next t) (k : Nat) :
    Sys2Proof.core.run (k + 1) s = Sys2Proof.core.run k t := by
  have hcore : Sys2Proof.core.step s = .next t := h
  simp only [Host.Core.run, hcore]

theorem State.nextDraw_of_env {s : State} {d : Draw} {ds : List Draw} (h : s.env = d :: ds) : s.nextDraw = d := by
  simp [State.nextDraw, h]

/-- A program's good draws begin with its first operation's. -/
theorem goodDraws_cons {cfg : Config} {i : Instr} {is : List Instr} {draws : List Draw}
    (h : goodDraws cfg (i :: is) draws = true) :
    ∃ d ds, draws = d :: ds ∧ goodDraw cfg i d = true ∧ goodDraws cfg is ds = true := by
  cases draws with
  | nil => cases h
  | cons d ds => exact ⟨d, ds, rfl, by simpa [goodDraws] using h⟩

theorem goodDraws_nil {cfg : Config} {draws : List Draw} (h : goodDraws cfg [] draws = true) : draws = [] := by
  cases draws with
  | nil => rfl
  | cons d ds => cases h

/-- A good draw of a bus micro-operation answers its request in full. -/
theorem reply_of_goodDraw {cfg : Config} {op : BusOp} {d : Draw} (h : goodDraw cfg (busInstr op) d = true) :
    ∃ resp, d.reply = .bytes resp ∧ resp.length = (busRequest cfg op).length := by
  have hanswers : answers (busRequest cfg op) d = true := by cases op <;> exact h
  cases hreply : d.reply with
  | bytes resp => exact ⟨resp, rfl, by simpa [answers, hreply] using hanswers⟩
  | silent => simp [answers, hreply] at hanswers
  | fail => simp [answers, hreply] at hanswers

/-! ## One step a position -/

/-- A step at a bus position other than I3, its draw good, is the exchange answered, and SP goes on. -/
theorem step_answered {s : State} {op : BusOp} {d : Draw} {ds : List Draw} (hturns : s.turns = [])
    (henv : s.env = d :: ds) (hop : s.microOp = some (busInstr op)) (hread : ∀ a, op ≠ .rreg a) (hsp : s.sp ≠ .i3)
    (hgood : goodDraw s.cfg (busInstr op) d = true) :
    ∃ resp, step s = .next { s with
      sp := s.sp.next s.cfg
      dev := s.dev.act op d
      air := s.air ++ s.dev.airOf op d
      trace := s.trace ++ [.exchange (busRequest s.cfg op) (.ok resp)]
      env := ds
      drawn := s.drawn + 1 } := by
  obtain ⟨resp, hreply, hlen⟩ := reply_of_goodDraw hgood
  rw [← State.nextDraw_of_env henv] at hreply
  have hexec := exec_answered hread hreply hlen rfl rfl
  rw [State.proceed_elsewhere (by exact hsp), State.nextDraw_of_env henv, henv] at hexec
  exact ⟨resp, (step_of_microOp hturns hop).trans hexec⟩

/-- A step at a wait position, its draw good, is the whole wait with the device's own move, and SP goes on. -/
theorem step_waited {s : State} {t : Duration} {d : Draw} {ds : List Draw} (hturns : s.turns = [])
    (henv : s.env = d :: ds) (hop : s.microOp = some (.wait t)) (hsp : s.sp ≠ .i3) (hwt : s.wt = 0)
    (hgood : goodDraw s.cfg (.wait t) d = true) :
    step s = .next { s with
      sp := s.sp.next s.cfg
      wt := 0
      dev := s.dev.ownMove
      trace := s.trace ++ [.wait t]
      env := ds
      drawn := s.drawn + 1 } := by
  simp only [goodDraw, Bool.and_eq_true, decide_eq_true_eq] at hgood
  obtain ⟨hlong, hsettled⟩ := hgood
  have hends := (waitCompletes s t).1
  simp only [State.nextDraw_of_env henv, hwt, hsettled, henv, if_true] at hends
  rw [step_of_microOp hturns hop, hends hlong, State.proceed_elsewhere (by exact hsp)]
  rfl

/-! ## The table (R6 b, R161) -/

theorem nodup_of_allDifferent {bs : List Byte} (h : allDifferent bs = true) : bs.Nodup := by
  induction bs with
  | nil => exact List.nodup_nil
  | cons b bs ih =>
    simp only [allDifferent, Bool.and_eq_true, Bool.not_eq_true', List.contains_eq_mem, decide_eq_false_iff_not] at h
    obtain ⟨hfirst, hrest⟩ := h
    exact List.nodup_cons.mpr ⟨hfirst, ih hrest⟩

/-- R6 (b): no address stands twice in the table. -/
theorem tableAddresses_nodup (cfg : Config) : (cfg.params.cfgTable.map Prod.fst).Nodup := by
  have hmeets := cfg.meets
  unfold Params.problem at hmeets
  split_ifs at hmeets with _ hrepeated
  exact nodup_of_allDifferent (by simpa using hrepeated)

/-- Where SP is once the first `j` entries are written (R198). -/
def tablePos (cfg : Config) (j : Nat) : Pos := if j < cfg.params.nCfg then .i2 j else .i3

@[simp] theorem requestsOf_append (a b : List Event) : requestsOf (a ++ b) = requestsOf a ++ requestsOf b :=
  List.filterMap_append

@[simp] theorem requestsOf_nil : requestsOf [] = [] := rfl

@[simp] theorem requestsOf_exchange (req : List Byte) (r : XResult) (rest : List Event) :
    requestsOf (.exchange req r :: rest) = req :: requestsOf rest := rfl

@[simp] theorem requestsOf_wait (t : Duration) (rest : List Event) :
    requestsOf (.wait t :: rest) = requestsOf rest := rfl

/-! ## The bring-up -/

/-- The state `s` of a bring-up begun in `start`, the entries `written` and no others written: the device idle, these
entries in its registers, the requests so far. -/
structure State.BringUp (start : State) (written : List (Byte × Byte)) (s : State) : Prop where
  turns : s.turns = []
  cfg : s.cfg = start.cfg
  status : s.status = start.status
  key : s.key = start.key
  addr : s.addr = start.addr
  rc : s.rc = start.rc
  air : s.air = start.air
  devId : s.dev.id = start.dev.id
  devIdle : s.dev.mode = .idle
  position : s.sp = tablePos start.cfg written.length
  stored : ∀ e ∈ written, s.dev.regs.read? e.1.toNat = some e.2
  requests : requestsOf s.trace =
    requestsOf start.trace ++ [[start.cfg.params.strobeSres]] ++ written.map (fun e => [e.1, e.2])

namespace State.BringUp

/-- The reset strobe and the settle wait leave the device idle, in whatever mode it was (R165, R166). -/
theorem begins {start : State} {d d' : Draw} {ds : List Draw} (hturns : start.turns = []) (hsp : start.sp = .i0)
    (hwt : start.wt = 0) (henv : start.env = d :: d' :: ds) (hreset : goodDraw start.cfg .sres d = true)
    (hsettle : goodDraw start.cfg (.wait .settle) d' = true) :
    ∃ s, (∀ k, Sys2Proof.core.run (k + 2) start = Sys2Proof.core.run k s) ∧ start.BringUp [] s ∧ s.env = ds := by
  obtain ⟨resp, hstrobe⟩ := step_answered (op := .sres) hturns henv (by simp [State.microOp, hsp, busInstr]) nofun
    (by simp [hsp]) hreset
  rw [hsp] at hstrobe
  refine ⟨_, fun k => (core_run_succ hstrobe (k + 1)).trans (core_run_succ (step_waited (t := .settle)
    (by exact hturns) rfl rfl (by exact nofun) (by exact hwt) (by exact hsettle)) k), ?_, rfl⟩
  exact
    { turns := hturns, cfg := rfl, status := rfl, key := rfl, addr := rfl, rc := rfl, position := rfl
      air := List.append_nil _
      devId := rfl
      devIdle := rfl
      stored := nofun
      requests := by simp [busRequest] }

/-- A table write stores its entry and, the addresses all different, keeps those written before (R171, R6 b). -/
theorem writes {start s : State} {written rest : List (Byte × Byte)} {e : Byte × Byte} {d : Draw} {ds : List Draw}
    (h : start.BringUp written s) (htable : start.cfg.params.cfgTable = written ++ e :: rest) (henv : s.env = d :: ds)
    (hgood : goodDraw start.cfg (.wreg e.1 e.2) d = true) :
    ∃ t, step s = .next t ∧ start.BringUp (written ++ [e]) t ∧ t.env = ds := by
  have hsp : s.sp = .i2 written.length := by
    rw [h.position, tablePos, if_pos (by simp [Params.nCfg, htable])]
  have hop : s.microOp = some (.wreg e.1 e.2) := by
    simp [State.microOp_at_i2 hsp, h.cfg, htable]
  obtain ⟨resp, hstep⟩ := step_answered (op := .wreg e.1 e.2) h.turns henv hop nofun (by simp [hsp])
    (by rw [h.cfg]; exact hgood)
  have hact : s.dev.act (.wreg e.1 e.2) d = { s.dev with regs := s.dev.regs.write e.1.toNat e.2 } := by
    simp [Dev.act, h.devIdle]
  have hquiet : s.dev.airOf (.wreg e.1 e.2) d = [] := by simp [Dev.airOf, h.devIdle]
  have hnew : ∀ e' ∈ written, e'.1.toNat ≠ e.1.toNat := by
    have hnodup := tableAddresses_nodup start.cfg
    rw [htable, List.map_append, List.map_cons, List.nodup_append] at hnodup
    obtain ⟨-, -, hdisjoint⟩ := hnodup
    exact fun e' he' heq =>
      hdisjoint _ (List.mem_map_of_mem he') _ List.mem_cons_self (BitVec.eq_of_toNat_eq heq)
  refine ⟨_, hstep, ?_, rfl⟩
  exact
    { turns := h.turns, cfg := h.cfg, status := h.status, key := h.key, addr := h.addr, rc := h.rc
      air := by simp [hquiet, h.air]
      devId := by simp [h.devId]
      devIdle := by simp [hact, h.devIdle]
      position := by
        rw [List.length_append, ← h.cfg]
        exact congrArg (Pos.next s.cfg) hsp
      stored := by
        intro e' he'
        rw [hact]
        obtain he' | he' := List.mem_append.mp he'
        · rw [Memory.read?_write_other _ _ (hnew e' he')]
          exact h.stored e' he'
        · obtain rfl := List.mem_singleton.mp he'
          exact Memory.read?_write_same _ _ _
      requests := by simp [h.requests, busRequest] }

/-- The writes that remain, one step each, lead to I3 with the whole table written. -/
theorem writesTable {start s : State} {written remaining : List (Byte × Byte)} {i : Instr} {draws rest : List Draw}
    (h : start.BringUp written s) (htable : start.cfg.params.cfgTable = written ++ remaining)
    (henv : s.env = draws ++ rest)
    (hgood : goodDraws start.cfg (remaining.map (fun e => .wreg e.1 e.2) ++ [i]) draws = true) :
    ∃ t d, (∀ k, Sys2Proof.core.run (remaining.length + k) s = Sys2Proof.core.run k t) ∧
      start.BringUp start.cfg.params.cfgTable t ∧ t.env = d :: rest ∧ goodDraw start.cfg i d = true := by
  induction remaining generalizing s written draws with
  | nil =>
    obtain ⟨d, ds, rfl, hd, hds⟩ := goodDraws_cons hgood
    rw [goodDraws_nil hds] at henv
    rw [List.append_nil] at htable
    exact ⟨s, d, fun k => by simp, htable ▸ h, henv, hd⟩
  | cons e remaining ih =>
    obtain ⟨d, ds, rfl, hd, hds⟩ := goodDraws_cons hgood
    obtain ⟨u, hstep, hu, henvu⟩ := h.writes htable henv hd
    obtain ⟨t, d', hrun, ht, hrest⟩ := ih hu (by simpa using htable) henvu hds
    refine ⟨t, d', fun k => ?_, ht, hrest⟩
    rw [List.length_cons, Nat.add_right_comm, core_run_succ hstep, hrun]

/-- After the table SP is at I3, and a good draw of the identification read answers it with the device's (R163, R171). -/
theorem reads {start s : State} {d : Draw} {ds : List Draw} (h : start.BringUp start.cfg.params.cfgTable s)
    (henv : s.env = d :: ds) (hgood : goodDraw start.cfg (.rreg start.cfg.params.idReg) d = true) :
    ∃ resp, step s = .next (State.endInit { s with
      rdv := start.dev.id
      trace := s.trace ++ [.exchange [readHeader s.cfg s.cfg.params.idReg, s.cfg.params.fill] (.ok resp)]
      env := ds
      drawn := s.drawn + 1 }) := by
  have hsp : s.sp = .i3 := by rw [h.position, tablePos, if_neg (by simp [Params.nCfg])]
  obtain ⟨resp, hreply, hlen⟩ := reply_of_goodDraw (op := .rreg start.cfg.params.idReg) hgood
  obtain ⟨r0, r1, rfl⟩ := List.length_eq_two.mp hlen
  rw [← State.nextDraw_of_env henv] at hreply
  have hread := rregCompletes s s.cfg.params.idReg r0 r1 hreply
  simp only [h.devIdle, if_true, h.devId] at hread
  rw [State.proceed_at_i3 (by exact hsp), henv] at hread
  exact ⟨_, (step_of_microOp h.turns (State.microOp_at_i3 hsp)).trans hread⟩

end State.BringUp

/-- Settles O54: the reset strobe and the settle wait (`State.BringUp.begins`), the table write by write
(`State.BringUp.writesTable`), the identification read (`State.BringUp.reads`). -/
theorem bringUpRuns : Obligations.BringUpRuns := by
  unfold Obligations.BringUpRuns
  intro start draws rest hturns hsp hwt henv hgood
  obtain ⟨d, ds, rfl, hreset, hgood⟩ := goodDraws_cons hgood
  obtain ⟨d', ds, rfl, hsettle, hgood⟩ := goodDraws_cons hgood
  obtain ⟨s, hbegins, hs, henvs⟩ := State.BringUp.begins hturns hsp hwt henv hreset hsettle
  obtain ⟨u, e, htable, hu, henvu, hread⟩ := hs.writesTable rfl henvs hgood
  obtain ⟨resp, hstep⟩ := hu.reads henvu hread
  have hrun := calc Sys2Proof.core.run (start.cfg.params.nCfg + 3) start
    _ = Sys2Proof.core.run (start.cfg.params.nCfg + 1) s := hbegins _
    _ = Sys2Proof.core.run 1 u := htable 1
    _ = .next _ := core_run_succ hstep 0
  refine ⟨_, hrun, rfl, ?status, ?requests, hu.devIdle, hu.stored, hu.air, hu.key, hu.addr, hu.rc, rfl⟩
  case status => simp [Status.endInit, hu.status, hu.cfg]
  case requests => simp [hu.requests, hu.cfg]

end Sys2Proof.Machine
end

section
/-!
SUPPORT. The sequencer (43_sequencer.md): the acceptance and refusal of INIT and SEND, positions S0 and S3, the silent
transport, and the order of the positions (R191 to R199).
-/

namespace Sys2Proof.Machine

/-! ## COMPOSE (R192) -/

/-- Settles O16: the sync marker is a list of one; the length is `length_composeBuffer`. -/
theorem composeDelivers : Obligations.ComposeDelivers := by
  unfold Obligations.ComposeDelivers
  refine fun s f => ⟨s.next_deliver_of_eq ?_, length_composeBuffer s.cfg f⟩
  rw [composeBuffer, List.append_assoc, List.singleton_append]

/-! ## Acceptance and refusal (R190, R191, R193) -/

/-- A refused OP write leaves the old outcome cleared and the refusal in its place (R190, R191). -/
theorem State.refuseOp_clearOutcome (s : State) (k : Kind) :
    s.clearOutcome.refuseOp k = { s with
      status := { s.status with busy := false, done := false, err := true }
      errinfo := errorWord k .none 0
      sp := .idle } := rfl

/-- Settles O18: of the two outcomes of `State.acceptInit_cases` the refusal. -/
theorem initRefusedOnceInitialised : Obligations.InitRefusedOnceInitialised := by
  unfold Obligations.InitRefusedOnceInitialised
  intro s hbusy hinitd
  have hexec : exec .init s = .next (s.writeOp State.acceptInit) := rfl
  rw [hexec, State.writeOp_idle _ hbusy]
  obtain ⟨-, hrefused⟩ | ⟨haccepted, -⟩ := s.clearOutcome.acceptInit_cases
  · rw [hrefused, State.refuseOp_clearOutcome]
    rfl
  · exact absurd (hinitd.symm.trans haccepted) nofun

/-- KV, AV and RV all set, bit by bit. -/
theorem Status.identityValid_iff (st : Status) :
    st.identityValid = true ↔ st.kv = true ∧ st.av = true ∧ st.rv = true := by
  simp [Status.identityValid, and_assoc]

theorem Status.identityValid_false_iff (st : Status) :
    st.identityValid = false ↔ st.kv = false ∨ st.av = false ∨ st.rv = false := by
  simp only [Status.identityValid, Bool.and_eq_false_iff, or_assoc]

/-- With BUSY = 0 a SEND is its acceptance, the old outcome cleared (R190). -/
theorem exec_send_idle {i : Instr} {c : Nibble} (hsend : (i, c) ∈ sends) {s : State} (hbusy : s.status.busy = false) :
    exec i s = .next (s.clearOutcome.acceptSend c) := by
  obtain ⟨-, hexec⟩ := exec_send hsend
  rw [hexec, State.writeOp_idle _ hbusy]

/-- Settles O19: of the three outcomes of `State.acceptSend_cases` the acceptance. -/
theorem sendStarts : Obligations.SendStarts := by
  unfold Obligations.SendStarts
  intro s i c hsend hbusy hinitd hkv hav hrv
  have hvalid : s.status.identityValid = true := s.status.identityValid_iff.mpr ⟨hkv, hav, hrv⟩
  rw [exec_send_idle hsend hbusy]
  obtain ⟨hno, -⟩ | ⟨-, hno, -⟩ | ⟨-, -, haccepted⟩ := s.clearOutcome.acceptSend_cases c
  · exact absurd (hinitd.symm.trans hno) nofun
  · exact absurd (hvalid.symm.trans hno) nofun
  · rw [haccepted]
    rfl

/-- Settles O20: of the three outcomes of `State.acceptSend_cases` the refusal whose check comes first. -/
theorem sendRefused : Obligations.SendRefused := by
  unfold Obligations.SendRefused
  intro s i c hsend hbusy
  rw [exec_send_idle hsend hbusy]
  refine ⟨fun hinitd => ?noInit, fun hinitd hmissing => ?noId⟩
  case noInit =>
    obtain ⟨-, hrefused⟩ | ⟨hyes, -⟩ | ⟨hyes, -⟩ := s.clearOutcome.acceptSend_cases c
    · rw [hrefused, State.refuseOp_clearOutcome]
      rfl
    · exact absurd (hinitd.symm.trans hyes) nofun
    · exact absurd (hinitd.symm.trans hyes) nofun
  case noId =>
    have hinvalid : s.status.identityValid = false := s.status.identityValid_false_iff.mpr hmissing
    obtain ⟨hno, -⟩ | ⟨-, -, hrefused⟩ | ⟨-, hyes, -⟩ := s.clearOutcome.acceptSend_cases c
    · exact absurd (hinitd.symm.trans hno) nofun
    · rw [hrefused, State.refuseOp_clearOutcome]
      rfl
    · exact absurd (hinvalid.symm.trans hyes) nofun

/-! ## The silent transport (R199, U5) -/

/-- While the transport is silent an exchange uses up the draw and nothing else. -/
theorem State.exchange_silent {s : State} (h : s.nextDraw.reply = .silent) (op : BusOp)
    (use : List Byte → State → State) : s.exchange op use = s.drawNext := by
  obtain ⟨-, hsilent⟩ | ⟨hfail | ⟨resp, hresp, -⟩, -⟩ | ⟨resp, hresp, -⟩ := s.exchange_cases op use
  · exact hsilent
  · exact absurd (h.symm.trans hfail) nofun
  · exact absurd (h.symm.trans hresp) nofun
  · exact absurd (h.symm.trans hresp) nofun

/-- Settles O33: the seven micro-operations are silent alike (`State.exchange_silent`). -/
theorem silentTransportKeepsThePosition : Obligations.SilentTransportKeepsThePosition := by
  unfold Obligations.SilentTransportKeepsThePosition
  intro s op hsilent
  rw [exec_busInstr, State.exchange_silent hsilent]
  rfl

/-! ## Positions S0 and S3 (R193, R196) -/

/-- At S0 a step fills the buffers, and SP goes on to S1. -/
theorem step_at_s0 {s : State} (hturns : s.turns = []) (hsp : s.sp = .s0) :
    step s = .next { s.filled with sp := .s1 } := by
  have hat : s.filled.sp = .s0 := hsp
  rw [step_sequencer hturns, State.microStep_at_s0 hsp, State.proceed_elsewhere (by simp [hat]), hat, Pos.next]

/-- Settles O39: `State.filled` is the three values in the buffers. -/
theorem buildStepFillsTheBuffers : Obligations.BuildStepFillsTheBuffers := by
  unfold Obligations.BuildStepFillsTheBuffers
  exact fun s hturns hsp => step_at_s0 hturns hsp

/-- At S3 a step commits. -/
theorem step_at_s3 {s : State} (hturns : s.turns = []) (hsp : s.sp = .s3) : step s = .next s.commit := by
  rw [step_sequencer hturns, State.microStep_at_s3 hsp]

/-- Settles O41: the step is the commit, whose sum of 16 bits wraps. -/
theorem commitAdvancesTheRollingCode : Obligations.CommitAdvancesTheRollingCode := by
  unfold Obligations.CommitAdvancesTheRollingCode
  exact fun s hturns hsp => ⟨s.latch.rc + 1, BitVec.toNat_add s.latch.rc 1, step_at_s3 hturns hsp⟩

/-! ## The order of the positions (R198, R28) -/

/-- The position after table entry `j` is the next entry's, or I3 after the last. -/
theorem Pos.next_tablePos {cfg : Config} {j : Nat} (h : j < cfg.params.nCfg) :
    (tablePos cfg j).next cfg = tablePos cfg (j + 1) := by
  rw [tablePos, if_pos h]
  rfl

/-- The positions of the table and I3 after them are `tablePos` at each count of entries written. -/
theorem tablePositions_eq (cfg : Config) :
    (List.range cfg.params.nCfg).map Pos.i2 ++ [.i3] = (List.range (cfg.params.nCfg + 1)).map (tablePos cfg) := by
  have hentries : (List.range cfg.params.nCfg).map (tablePos cfg) = (List.range cfg.params.nCfg).map Pos.i2 :=
    List.map_congr_left fun j hj => if_pos (List.mem_range.mp hj)
  simp [List.range_succ, hentries, tablePos]

theorem initPositions_eq (cfg : Config) :
    initPositions cfg = .i0 :: .i1 :: (List.range (cfg.params.nCfg + 1)).map (tablePos cfg) := by
  rw [initPositions, List.append_assoc, tablePositions_eq]
  rfl

theorem initPositions_chain (cfg : Config) :
    List.IsChain (fun p q => p.next cfg = q) (initPositions cfg ++ [.idle]) := by
  have htable : List.IsChain (fun p q => p.next cfg = q) ((List.range (cfg.params.nCfg + 1)).map (tablePos cfg)) := by
    rw [List.isChain_map, List.isChain_range_succ]
    exact fun j => Pos.next_tablePos
  have hinit : List.IsChain (fun p q => p.next cfg = q) (initPositions cfg) := by
    rw [initPositions_eq]
    refine .cons_cons rfl (List.isChain_cons.mpr ⟨?_, htable⟩)
    simp [List.head?_range, Pos.next, tablePos]
  have hlast : (initPositions cfg).getLast? = some .i3 := List.getLast?_concat
  refine List.isChain_append.mpr ⟨hinit, .singleton _, ?_⟩
  simp [hlast, Pos.next]

/-- In SEND the order of the positions does not depend on the configuration. -/
theorem Pos.next_of_inSend {p : Pos} (h : p.inSend = true) (cfg cfg' : Config) : p.next cfg = p.next cfg' := by
  cases p with
  | idle | i0 | i1 | i2 | i3 => cases h
  | _ => rfl

/-- So the order is read off under any configuration, TestCfg here. -/
theorem sendPositions_chain (cfg : Config) :
    List.IsChain (fun p q => p.next cfg = q) (sendPositions ++ [.idle]) := by
  have htest : List.IsChain (fun p q => p.inSend = true ∧ p.next Config.test = q) (sendPositions ++ [.idle]) := by
    decide
  exact htest.imp fun p q ⟨hsend, hnext⟩ => (Pos.next_of_inSend hsend cfg Config.test).trans hnext

/-- Settles O36: the two lists by their own lemmas, `proceed` by its laws. -/
theorem positionsFollowTheMicroprogram : Obligations.PositionsFollowTheMicroprogram := by
  unfold Obligations.PositionsFollowTheMicroprogram
  exact fun cfg => ⟨initPositions_chain cfg, sendPositions_chain cfg,
    fun s => ⟨s.proceed_sp, State.proceed_elsewhere⟩⟩

end Sys2Proof.Machine
end

section
/-!
SUPPORT. A send in which every exchange is answered (43_sequencer.md R193 to R201): one step a position, and what holds
of the state before each transmission.
-/

namespace Sys2Proof.Machine

/-- Good draws of one program and then another. -/
theorem goodDraws_append {cfg : Config} {is js : List Instr} {draws : List Draw}
    (h : goodDraws cfg (is ++ js) draws = true) :
    ∃ ds es, draws = ds ++ es ∧ goodDraws cfg is ds = true ∧ goodDraws cfg js es = true := by
  induction is generalizing draws with
  | nil => exact ⟨[], draws, rfl, rfl, h⟩
  | cons i is ih =>
    obtain ⟨d, ds, rfl, hd, hds⟩ := goodDraws_cons h
    obtain ⟨ds, es, rfl, his, hjs⟩ := ih hds
    exact ⟨d :: ds, es, rfl, by simp [goodDraws, hd, his], hjs⟩

/-- The composite buffer of a SEND, which each of its transmissions loads (R192, R193). -/
def State.txBytes (start : State) : List Byte := composeBuffer start.cfg start.latchedFrame

/-- The state `s` of a SEND begun in `start` and answered so far: its position, the device, what went on the air and the
requests made since. -/
structure State.Sending (start : State) (p : Pos) (dev : Dev) (sent requests : List (List Byte)) (s : State) :
    Prop where
  turns : s.turns = []
  cfg : s.cfg = start.cfg
  status : s.status = start.status
  key : s.key = start.key
  addr : s.addr = start.addr
  latch : s.latch = start.latch
  wt : s.wt = 0
  txbuf : s.bufs.txbuf = start.txBytes
  position : s.sp = p
  device : s.dev = dev
  air : s.air = start.air ++ sent
  requests : requestsOf s.trace = requestsOf start.trace ++ requests

/-- The device with its buffer empty, ready for a burst write (R170, R172). -/
def Dev.readied (dev : Dev) : Dev := { dev with mode := .idle, fifo := [] }

/-- Where SP is once `k` frames are sent (R198). -/
def framePos (k : Nat) : Pos := if h : k < 9 then .fa ⟨k, h⟩ else .s3

/-- The requests of one transmission (R194). -/
def State.frameRequests (start : State) : List (List Byte) :=
  [start.cfg.params.txbufBurst :: start.txBytes, [start.cfg.params.strobeStx]]

namespace State.Sending

/-- Position S0 fills the buffers and SP goes on (R193). -/
theorem begins {start : State} (hturns : start.turns = []) (hsp : start.sp = .s0) (hwt : start.wt = 0) :
    ∃ s, step start = .next s ∧ start.Sending .s1 start.dev [] [] s ∧ s.env = start.env :=
  ⟨_, step_at_s0 hturns hsp,
    { turns := hturns, cfg := rfl, status := rfl, key := rfl, addr := rfl, latch := rfl, wt := hwt, txbuf := rfl
      position := rfl, device := rfl, air := (List.append_nil _).symm, requests := (List.append_nil _).symm }, rfl⟩

section
variable {start s : State} {p : Pos} {dev : Dev} {sent requests : List (List Byte)} {d : Draw} {ds : List Draw}

/-- An exchange answered has the device's effect, adds its request, and SP goes on (R150). -/
theorem answered (h : start.Sending p dev sent requests s) (henv : s.env = d :: ds) {op : BusOp}
    (hop : s.microOp = some (busInstr op)) (hread : ∀ a, op ≠ .rreg a) (hp : p ≠ .i3)
    (hgood : goodDraw start.cfg (busInstr op) d = true) :
    ∃ t, step s = .next t ∧ t.env = ds ∧ start.Sending (p.next start.cfg) (dev.act op d) (sent ++ dev.airOf op d)
      (requests ++ [busRequest start.cfg op]) t := by
  obtain ⟨resp, hstep⟩ := step_answered h.turns henv hop hread (by rw [h.position]; exact hp)
    (by rw [h.cfg]; exact hgood)
  refine ⟨_, hstep, rfl, ?_⟩
  exact
    { turns := h.turns, cfg := h.cfg, status := h.status, key := h.key, addr := h.addr, latch := h.latch, wt := h.wt
      txbuf := h.txbuf
      position := by simp [h.position, h.cfg]
      device := by simp [h.device]
      air := by simp [h.air, h.device]
      requests := by simp [h.requests, h.cfg] }

/-- A wait that is long enough ends with the device's own move, and SP goes on (R160, R169). -/
theorem waited (h : start.Sending p dev sent requests s) (henv : s.env = d :: ds) {t : Duration}
    (hop : s.microOp = some (.wait t)) (hp : p ≠ .i3) (hgood : goodDraw start.cfg (.wait t) d = true) :
    ∃ u, step s = .next u ∧ u.env = ds ∧ start.Sending (p.next start.cfg) dev.ownMove sent requests u := by
  have hstep := step_waited h.turns henv hop (by rw [h.position]; exact hp) h.wt (by rw [h.cfg]; exact hgood)
  refine ⟨_, hstep, rfl, ?_⟩
  exact
    { turns := h.turns, cfg := h.cfg, status := h.status, key := h.key, addr := h.addr, latch := h.latch, wt := rfl
      txbuf := h.txbuf
      position := by simp [h.position, h.cfg]
      device := by simp [h.device]
      air := h.air
      requests := by simp [h.requests] }

end

/-- The enter-idle strobe and the flush leave the device readied, in IDLE or TRANSMIT as it was (R167, R170). -/
theorem readies {start s : State} {d d' : Draw} {ds : List Draw} (h : start.Sending .s1 start.dev [] [] s)
    (hmode : start.dev.mode = .idle ∨ start.dev.mode = .transmit) (henv : s.env = d :: d' :: ds)
    (hidle : goodDraw start.cfg .sidle d = true) (hflush : goodDraw start.cfg .sftx d' = true) :
    ∃ t : State, (∀ n, Sys2Proof.core.run (n + 2) s = Sys2Proof.core.run n t) ∧ t.env = ds ∧
      start.Sending (framePos 0) start.dev.readied []
        [[start.cfg.params.strobeSidle], [start.cfg.params.strobeSftx]] t := by
  obtain ⟨u, hu, henvu, hsu⟩ := h.answered (op := .sidle) henv (by simp [State.microOp, h.position, busInstr]) nofun
    nofun hidle
  rw [Dev.act_sidle, Dev.airOf_sidle, if_pos hmode, if_pos hmode] at hsu
  obtain ⟨t, ht, henvt, hst⟩ := hsu.answered (op := .sftx) henvu
    (by simp [State.microOp, hsu.position, Pos.next, busInstr]) nofun nofun hflush
  exact ⟨t, fun n => (core_run_succ hu (n + 1)).trans (core_run_succ ht n), henvt, hst⟩

/-- The composite buffer loaded into the empty buffer, sent and waited for (R194, R168). -/
theorem sends {start s : State} {k : Fin 9} {sent requests : List (List Byte)} {d₁ d₂ d₃ : Draw} {ds : List Draw}
    (h : start.Sending (.fa k) start.dev.readied sent requests s) (henv : s.env = d₁ :: d₂ :: d₃ :: ds)
    (hload : goodDraw start.cfg (.burstw start.txBytes) d₁ = true) (hstrobe : goodDraw start.cfg .stx d₂ = true)
    (hwait : goodDraw start.cfg (.wait .tx) d₃ = true) :
    ∃ t : State, (∀ n, Sys2Proof.core.run (n + 3) s = Sys2Proof.core.run n t) ∧ t.env = ds ∧
      start.Sending (Pos.next start.cfg (.fc k)) start.dev.readied (sent ++ [start.txBytes])
        (requests ++ start.frameRequests) t := by
  obtain ⟨s₁, hs₁, henv₁, h₁⟩ := h.answered (op := .burstw start.txBytes) henv
    (by simp [State.microOp, h.position, h.txbuf, busInstr]) nofun nofun hload
  obtain ⟨s₂, hs₂, henv₂, h₂⟩ := h₁.answered (op := .stx) henv₁
    (by simp [State.microOp, h₁.position, Pos.next, busInstr]) nofun nofun hstrobe
  obtain ⟨s₃, hs₃, henv₃, h₃⟩ := h₂.waited (t := .tx) henv₂
    (by simp [State.microOp, h₂.position, Pos.next]) nofun hwait
  have hsilent : start.dev.readied.airOf (.burstw start.txBytes) d₁ = [] := rfl
  rw [hsilent, List.append_nil, List.append_assoc requests] at h₃
  refine ⟨s₃, fun n => ?_, henv₃, h₃⟩
  rw [core_run_succ hs₁ (n + 2), core_run_succ hs₂ (n + 1), core_run_succ hs₃ n]

/-- One transmission: the frame sent and, but after the last, the gap (R194). -/
theorem transmits {start s : State} {k : Fin 9} {sent requests : List (List Byte)} {draws rest : List Draw}
    (h : start.Sending (framePos k) start.dev.readied sent requests s) (henv : s.env = draws ++ rest)
    (hgood : goodDraws start.cfg (txFrame start.txBytes k) draws = true) :
    ∃ t : State, (∀ n, Sys2Proof.core.run (n + (txFrame start.txBytes k).length) s = Sys2Proof.core.run n t) ∧
      t.env = rest ∧ start.Sending (framePos (k + 1)) start.dev.readied (sent ++ [start.txBytes])
        (requests ++ start.frameRequests) t := by
  rw [framePos, dif_pos k.isLt] at h
  obtain ⟨d₁, ds, rfl, hload, hgood⟩ := goodDraws_cons hgood
  obtain ⟨d₂, ds, rfl, hstrobe, hgood⟩ := goodDraws_cons hgood
  obtain ⟨d₃, ds, rfl, hwait, hgood⟩ := goodDraws_cons hgood
  obtain ⟨u, hu, henvu, hsu⟩ := h.sends henv hload hstrobe hwait
  by_cases hk : k.val < 8
  case pos =>
    have hframe : txFrame start.txBytes k = [.burstw start.txBytes, .stx, .wait .tx, .wait .gap] := by
      simp [txFrame, Nat.le_of_lt_succ hk]
    rw [if_pos (Nat.le_of_lt_succ hk)] at hgood
    obtain ⟨d₄, ds, rfl, hgap, hnil⟩ := goodDraws_cons hgood
    obtain rfl := goodDraws_nil hnil
    rw [Pos.next, dif_pos hk] at hsu
    obtain ⟨t, ht, henvt, hst⟩ := hsu.waited (t := .gap) henvu (by simp [State.microOp, hsu.position]) nofun hgap
    rw [framePos, dif_pos (Nat.succ_lt_succ hk), hframe]
    exact ⟨t, fun n => (hu (n + 1)).trans (core_run_succ ht n), henvt, hst⟩
  case neg =>
    have hframe : txFrame start.txBytes k = [.burstw start.txBytes, .stx, .wait .tx] := by
      simp [txFrame, show ¬ k.val ≤ 7 by omega]
    rw [if_neg (by omega)] at hgood
    obtain rfl := goodDraws_nil hgood
    rw [Pos.next, dif_neg hk] at hsu
    rw [framePos, dif_neg (by omega), hframe]
    exact ⟨u, hu, henvu, hsu⟩

/-- The transmissions that remain after the first `k`, in order, lead to S3 with nine made (R194, R200). -/
theorem transmitsAll {start s : State} {k : Nat} {draws rest : List Draw} {requests : List (List Byte)}
    (h : start.Sending (framePos k) start.dev.readied (List.replicate k start.txBytes)
      (requests ++ (List.replicate k start.frameRequests).flatten) s)
    (hk : k ≤ 9) (henv : s.env = draws ++ rest)
    (hgood : goodDraws start.cfg (((List.finRange 9).drop k).flatMap (txFrame start.txBytes)) draws = true) :
    ∃ t : State, (∀ n,
        Sys2Proof.core.run (n + (((List.finRange 9).drop k).flatMap (txFrame start.txBytes)).length) s =
          Sys2Proof.core.run n t) ∧ t.env = rest ∧
      start.Sending .s3 start.dev.readied (List.replicate 9 start.txBytes)
        (requests ++ (List.replicate 9 start.frameRequests).flatten) t := by
  induction hk using Nat.decreasingInduction generalizing s draws with
  | self =>
    obtain rfl := goodDraws_nil hgood
    exact ⟨s, fun n => rfl, henv, h⟩
  | of_succ k hk ih =>
    have hdrop : (List.finRange 9).drop k = ⟨k, hk⟩ :: (List.finRange 9).drop (k + 1) := by
      rw [List.drop_eq_getElem_cons (by simpa using hk)]
      simp
    rw [hdrop, List.flatMap_cons] at hgood ⊢
    obtain ⟨ds, es, rfl, hframe, hrest⟩ := goodDraws_append hgood
    rw [List.append_assoc] at henv
    obtain ⟨u, hu, henvu, hsu⟩ := h.transmits (k := ⟨k, hk⟩) henv hframe
    obtain ⟨t, ht, henvt, hst⟩ := ih (by simpa [List.replicate_succ'] using hsu) henvu hrest
    refine ⟨t, fun n => ?_, henvt, hst⟩
    rw [List.length_append, Nat.add_comm (List.length _), ← Nat.add_assoc, hu, ht]

end State.Sending

/-- Settles O55: position S0 (`State.Sending.begins`), the two strobes (`State.Sending.readies`), the nine transmissions
one by one (`State.Sending.transmitsAll`), the commit (`step_at_s3`). -/
theorem sendTransmitsNineTimesThenCommits : Obligations.SendTransmitsNineTimesThenCommits := by
  unfold Obligations.SendTransmitsNineTimesThenCommits
  intro start draws rest hturns hsp hwt hmode henv tx hgood
  obtain ⟨d, ds, rfl, hidle, hgood⟩ := goodDraws_cons hgood
  obtain ⟨d', ds, rfl, hflush, hgood⟩ := goodDraws_cons hgood
  obtain ⟨s, hs, hbegun, henvs⟩ := State.Sending.begins hturns hsp hwt
  obtain ⟨u, hu, henvu, hready⟩ := hbegun.readies hmode (henvs.trans henv) hidle hflush
  obtain ⟨v, hv, henvv, hsent⟩ := State.Sending.transmitsAll (k := 0)
    (requests := [[start.cfg.params.strobeSidle], [start.cfg.params.strobeSftx]]) hready (Nat.zero_le 9) henvu hgood
  have hrun := calc Sys2Proof.core.run 39 start
    _ = Sys2Proof.core.run 38 s := core_run_succ hs 38
    _ = Sys2Proof.core.run 36 u := hu 36
    _ = Sys2Proof.core.run 1 v := hv 1
    _ = .next v.commit := core_run_succ (step_at_s3 hsent.turns hsent.position) 0
  refine ⟨_, hrun, rfl, ?status, ?rc, hsent.key, hsent.addr, hsent.air, ?requests, ?devIdle, henvv⟩
  case status => exact congrArg Status.endSend hsent.status
  case rc => rw [← hsent.latch]; exact BitVec.toNat_add v.latch.rc 1
  case requests => exact hsent.requests.trans (List.append_assoc ..).symm
  case devIdle => exact congrArg Dev.mode hsent.device

end Sys2Proof.Machine
end

section
/-!
SUPPORT. How far a microprogram still has to go (43_sequencer.md R198, R201): what each position takes off the bounds,
what one running step spends of them, and that the operation ends.
-/

namespace Sys2Proof.Machine

/-! ## The bound on the steps, position by position -/

theorem stepsFrom_i1 (cfg : Config) :
    stepsFrom cfg .i1 = waitSteps cfg .settle + stepsFrom cfg (Pos.next cfg .i1) := by
  simp only [Pos.next]
  split <;> simp only [stepsFrom] <;> omega

/-- Until the last frame the transmit wait is followed by the gap and a frame more (R194). -/
theorem stepsFrom_fc (cfg : Config) (k : Fin 9) :
    stepsFrom cfg (.fc k) = waitSteps cfg .tx + stepsFrom cfg (Pos.next cfg (.fc k)) := by
  by_cases hk : k.val < 8
  · have hleft : 8 - k.val = 7 - k.val + 1 := by omega
    simp only [Pos.next, dif_pos hk, stepsFrom, hleft, Nat.succ_mul, frameSteps]
    omega
  · have hleft : 8 - k.val = 0 := by omega
    simp only [Pos.next, dif_neg hk, stepsFrom, hleft]
    omega

theorem stepsFrom_fd (cfg : Config) (k : Fin 8) :
    stepsFrom cfg (.fd k) = waitSteps cfg .gap + stepsFrom cfg (Pos.next cfg (.fd k)) := by
  have hleft : 8 - (k.val + 1) = 7 - k.val := by omega
  simp only [Pos.next, stepsFrom, hleft]
  omega

/-- At a wait position the bound is the wait's own on top of the next position's. -/
theorem stepsFrom_of_wait {s : State} {t : Duration} (h : s.microOp = some (.wait t)) :
    stepsFrom s.cfg s.sp = waitSteps s.cfg t + stepsFrom s.cfg (s.sp.next s.cfg) := by
  cases hsp : s.sp with
  | i1 =>
    obtain rfl : Duration.settle = t := by simpa [State.microOp, hsp] using h
    exact stepsFrom_i1 s.cfg
  | fc k =>
    obtain rfl : Duration.tx = t := by simpa [State.microOp, hsp] using h
    exact stepsFrom_fc s.cfg k
  | fd k =>
    obtain rfl : Duration.gap = t := by simpa [State.microOp, hsp] using h
    exact stepsFrom_fd s.cfg k
  | i2 j => simp [State.microOp_at_i2 hsp] at h
  | _ => simp [State.microOp, hsp] at h

/-- At any other position it is one step more than the next position's. -/
theorem stepsFrom_of_not_wait {cfg : Config} {p : Pos} (hrun : p ≠ .idle) (hwait : p.isWait = false)
    (htable : ∀ j, p = .i2 j → j < cfg.params.nCfg) : stepsFrom cfg p = stepsFrom cfg (p.next cfg) + 1 := by
  cases p with
  | idle => exact absurd rfl hrun
  | i1 | fc | fd => cases hwait
  | i2 j =>
    have hj := htable j rfl
    simp only [Pos.next]
    split <;> simp only [stepsFrom] <;> omega
  | _ => rfl

theorem stepsFrom_pos {cfg : Config} {p : Pos} (hrun : p ≠ .idle) : 0 < stepsFrom cfg p := by
  cases p with
  | idle => exact absurd rfl hrun
  | _ => simp [stepsFrom]

/-! ## The bound on the exchanges, and the positions without a draw -/

/-- A position takes no exchange off the bound but the one made there (R201). -/
theorem exchangesFrom_next {cfg : Config} {p : Pos} (htable : ∀ j, p = .i2 j → j < cfg.params.nCfg) :
    exchangesFrom cfg (p.next cfg) + p.isExchange.toNat ≤ exchangesFrom cfg p := by
  cases p with
  | i1 => simp only [Pos.next]; split <;> simp [exchangesFrom, Pos.isExchange]
  | i2 j =>
    have hj := htable j rfl
    simp only [Pos.next]
    split <;> simp [exchangesFrom, Pos.isExchange] <;> omega
  | fc k => simp only [Pos.next]; split <;> simp [exchangesFrom, Pos.isExchange]
  | fb k => simp [Pos.next, exchangesFrom, Pos.isExchange]; omega
  | _ => simp [Pos.next, exchangesFrom, Pos.isExchange]

/-- How many of the positions still to come, this one included, use up no draw: S0 and S3. -/
def drawlessFrom (p : Pos) : Nat := (p == .s0).toNat + p.inSend.toNat

theorem drawlessFrom_le (p : Pos) : drawlessFrom p ≤ 2 := Nat.add_le_add (Bool.toNat_le _) (Bool.toNat_le _)

theorem drawlessFrom_next_le (cfg : Config) (p : Pos) : drawlessFrom (p.next cfg) ≤ drawlessFrom p := by
  cases p with
  | i1 | i2 | fc => simp only [Pos.next]; split <;> exact Nat.le_refl _
  | s0 | s3 => exact Nat.le_succ _
  | _ => exact Nat.le_refl _

theorem drawlessFrom_next_lt {cfg : Config} {p : Pos} (h : p = .s0 ∨ p = .s3) :
    drawlessFrom (p.next cfg) < drawlessFrom p := by
  obtain rfl | rfl := h <;> exact Nat.lt_succ_self _

/-! ## What one running step does to SP, the timer, the draws and the requests -/

theorem speaks_eq_false_iff (d : Draw) : speaks d = false ↔ d.reply = .silent := by
  simp [speaks]

/-- An exchange that the transport ended, returned or failed: SP at the next position or IDLE, one draw used up, one
request made. -/
structure State.Exchanged (s t : State) : Prop where
  position : t.sp = .idle ∨ t.sp = s.sp.next s.cfg
  wt : t.wt = s.wt
  env : t.env = s.env.tail
  requests : (requestsOf t.trace).length = (requestsOf s.trace).length + 1

theorem State.exchangeFails_exchanged (s : State) (op : BusOp) :
    s.Exchanged (s.drawNext.exchangeFails op s.nextDraw) := by
  unfold State.exchangeFails
  split <;> exact ⟨.inl rfl, rfl, rfl, by simp⟩

theorem State.exchangeReturns_exchanged (s : State) (op : BusOp) (resp : List Byte) :
    s.Exchanged (s.drawNext.exchangeReturns op s.nextDraw resp (useOf op)) := by
  unfold State.exchangeReturns
  obtain ⟨rdv, hused, -⟩ := use_response (useOf_cases op) (s.dev.respond s.cfg op resp)
    ((s.drawNext.deviceActs op s.nextDraw).log
      (.exchange (busRequest s.cfg op) (.ok (s.dev.respond s.cfg op resp))))
  simp only [State.drawNext_dev, State.drawNext_cfg, hused]
  exact ⟨.inr (by simp), by simp, by simp, by simp⟩

/-- An exchange at which the transport is not silent ends (R150). -/
theorem State.exchange_exchanged {s : State} (h : speaks s.nextDraw = true) (op : BusOp) :
    s.Exchanged (s.exchange op (useOf op)) := by
  obtain ⟨hsilent, -⟩ | ⟨-, heq⟩ | ⟨resp, -, -, heq⟩ := s.exchange_cases op (useOf op)
  · rw [(speaks_eq_false_iff _).mpr hsilent] at h
    cases h
  · exact heq ▸ s.exchangeFails_exchanged op
  · exact heq ▸ s.exchangeReturns_exchanged op resp

/-- How long the wait at SP still lasts: its duration where it begins now, else what the timer says (R160, R31). -/
def State.waitLeft (s : State) (d : Duration) : Nat := if s.wt = 0 then d.value s.cfg else s.wt

/-- A step of a wait: SP at the next position, or the timer running on with less time left; one draw used up, no request
made. -/
structure State.Waited (s : State) (d : Duration) (t : State) : Prop where
  progress : (t.wt = 0 ∧ t.sp = s.sp.next s.cfg) ∨ (0 < t.wt ∧ t.wt < s.waitLeft d ∧ t.sp = s.sp)
  env : t.env = s.env.tail
  requests : (requestsOf t.trace).length = (requestsOf s.trace).length

theorem State.waitFor_waited (s : State) (d : Duration) : s.Waited d (s.waitFor d) := by
  have hpasses := one_le_passes s.nextDraw
  obtain ⟨u, left, hu, hleft, hcases⟩ := s.waitFor_cases d
  obtain rfl : left = s.waitLeft d := hleft
  have hbegun : u.sp = s.sp ∧ u.cfg = s.cfg ∧ u.env = s.env.tail ∧
      (requestsOf u.trace).length = (requestsOf s.trace).length := by
    rw [hu]; split <;> simp
  have hmoved : ∃ v, (if s.nextDraw.settled then u.deviceMoves else u) = v ∧ v.sp = s.sp ∧ v.cfg = s.cfg ∧
      v.env = s.env.tail ∧ (requestsOf v.trace).length = (requestsOf s.trace).length := by
    split
    · exact ⟨_, rfl, hbegun⟩
    · exact ⟨_, rfl, hbegun⟩
  obtain ⟨v, hv, hsp, hcfg, henv, hrequests⟩ := hmoved
  rw [hv] at hcases
  obtain ⟨-, heq⟩ | ⟨hlt, heq⟩ := hcases <;> rw [heq]
  · exact ⟨.inl (by simp [hsp, hcfg]), by simp [henv], by simp [hrequests]⟩
  · exact ⟨.inr ⟨by simp [hlt], by simp; omega, hsp⟩, henv, hrequests⟩

theorem Pos.not_isExchange_of_isWait {p : Pos} (h : p.isWait = true) : p.isExchange = false := by
  cases hsp : p.isExchange with
  | false => rfl
  | true => exact absurd (h.symm.trans (Pos.not_isWait_of_isExchange hsp)) nofun

/-- Position S0 or S3 over: SP at the next position, no draw used up, no event added. -/
structure State.PassedOn (s t : State) : Prop where
  drawless : s.sp = .s0 ∨ s.sp = .s3
  position : t.sp = s.sp.next s.cfg
  wt : t.wt = s.wt
  env : t.env = s.env
  trace : t.trace = s.trace

theorem State.filled_proceed_passedOn {s : State} (h : s.sp = .s0) : s.PassedOn s.filled.proceed :=
  ⟨.inl h, by simp [State.filled], by simp [State.filled], by simp [State.filled], by simp [State.filled]⟩

theorem State.commit_passedOn {s : State} (h : s.sp = .s3) : s.PassedOn s.commit :=
  ⟨.inr h, by rw [h]; rfl, rfl, rfl, rfl⟩

/-- Everything a micro-step of a running operation can do to them. -/
theorem State.microStep_running {s t : State} (hrun : s.sp ≠ .idle) (hstep : s.microStep = .next t) :
    (s.sp.isExchange = true ∧ speaks s.nextDraw = false ∧ t = s.drawNext) ∨
    (s.sp.isExchange = true ∧ speaks s.nextDraw = true ∧ s.Exchanged t) ∨
    (s.sp.isExchange = false ∧ ∃ d, s.microOp = some (.wait d) ∧ s.Waited d t) ∨
    (s.sp.isExchange = false ∧ s.PassedOn t) := by
  obtain ⟨hidle, -⟩ | ⟨hsp, -⟩ | ⟨hsp, hm⟩ | ⟨i, hop, hm⟩ | ⟨-, hm⟩ := s.microStep_cases
  · exact absurd hidle hrun
  · cases (s.microStep_at_s0 hsp).symm.trans hstep
    exact .inr (.inr (.inr ⟨by rw [hsp]; rfl, State.filled_proceed_passedOn hsp⟩))
  · cases hm.symm.trans hstep
    exact .inr (.inr (.inr ⟨by rw [hsp]; rfl, State.commit_passedOn hsp⟩))
  · rw [hm] at hstep
    obtain ⟨hsp, op, rfl, -⟩ | ⟨hsp, d, rfl⟩ := State.microOp_performs hop
    · cases (exec_busInstr op s).symm.trans hstep
      cases hspeaks : speaks s.nextDraw with
      | false => exact .inl ⟨hsp, rfl, State.exchange_silent ((speaks_eq_false_iff _).mp hspeaks) op _⟩
      | true => exact .inr (.inl ⟨hsp, rfl, State.exchange_exchanged hspeaks op⟩)
    · cases hstep
      exact .inr (.inr (.inl ⟨Pos.not_isExchange_of_isWait hsp, d, hop, s.waitFor_waited d⟩))
  · cases hm.symm.trans hstep

/-! ## The bound on the steps falls (R198) -/

theorem stepsLeft_of_timer_off {s : State} (h : s.wt = 0) : stepsLeft s = stepsFrom s.cfg s.sp := if_pos h

theorem stepsLeft_of_timer_on {s : State} (h : s.wt ≠ 0) : stepsLeft s = s.wt + stepsFrom s.cfg (s.sp.next s.cfg) :=
  if_neg h

theorem stepsLeft_pos {s : State} (hrun : s.sp ≠ .idle) : 0 < stepsLeft s := by
  by_cases hwt : s.wt = 0
  · rw [stepsLeft_of_timer_off hwt]
    exact stepsFrom_pos hrun
  · rw [stepsLeft_of_timer_on hwt]
    omega

/-- Where no wait is performed, SP going on takes one step off the bound. -/
theorem Inv.stepsLeft_of_not_wait {s : State} (h : Inv s) (hrun : s.sp ≠ .idle) (hwait : s.sp.isWait = false) :
    stepsLeft s = stepsFrom s.cfg (s.sp.next s.cfg) + 1 := by
  rw [stepsLeft_of_timer_off (h.wt_zero hwait), stepsFrom_of_not_wait hrun hwait h.tableIndex]

/-! Each step but a silent one brings the end nearer: an exchange ended, a step of a wait, positions S0 and S3. -/

theorem stepsLeft_exchanged {s t : State} (h : Inv s) (hsp : s.sp.isExchange = true) (hcfg : t.cfg = s.cfg)
    (ht : s.Exchanged t) : stepsLeft t < stepsLeft s := by
  have hwait := Pos.not_isWait_of_isExchange hsp
  obtain ⟨hrun, -, -⟩ := Pos.ne_of_performs (.inl hsp)
  rw [h.stepsLeft_of_not_wait hrun hwait, stepsLeft_of_timer_off (ht.wt.trans (h.wt_zero hwait)), hcfg]
  obtain hidle | hnext := ht.position
  · rw [hidle]
    exact Nat.succ_pos _
  · rw [hnext]
    exact Nat.lt_succ_self _

theorem stepsLeft_waited {s t : State} {d : Duration} (hop : s.microOp = some (.wait d)) (hcfg : t.cfg = s.cfg)
    (ht : s.Waited d t) : stepsLeft t < stepsLeft s := by
  -- The bound in `s` is at least what is left of the wait, and one step, on top of the next position's.
  have hbound : s.waitLeft d + stepsFrom s.cfg (s.sp.next s.cfg) ≤ stepsLeft s ∧
      stepsFrom s.cfg (s.sp.next s.cfg) < stepsLeft s := by
    by_cases hwt : s.wt = 0
    · have hone := Nat.le_max_left 1 (d.value s.cfg)
      have hvalue := Nat.le_max_right 1 (d.value s.cfg)
      rw [State.waitLeft, if_pos hwt, stepsLeft_of_timer_off hwt, stepsFrom_of_wait hop, waitSteps]
      omega
    · rw [State.waitLeft, if_neg hwt, stepsLeft_of_timer_on hwt]
      omega
  obtain ⟨hleft, hone⟩ := hbound
  obtain ⟨hwt, hsp⟩ | ⟨hpos, hlt, hsp⟩ := ht.progress
  · rw [stepsLeft_of_timer_off hwt, hcfg, hsp]
    exact hone
  · rw [stepsLeft_of_timer_on (Nat.ne_of_gt hpos), hcfg, hsp]
    omega

theorem stepsLeft_passedOn {s t : State} (h : Inv s) (hcfg : t.cfg = s.cfg) (ht : s.PassedOn t) :
    stepsLeft t < stepsLeft s := by
  have hat : s.sp ≠ .idle ∧ s.sp.isWait = false := by
    obtain hsp | hsp := ht.drawless <;> rw [hsp] <;> exact ⟨nofun, rfl⟩
  obtain ⟨hrun, hwait⟩ := hat
  rw [h.stepsLeft_of_not_wait hrun hwait, stepsLeft_of_timer_off (ht.wt.trans (h.wt_zero hwait)), hcfg, ht.position]
  exact Nat.lt_succ_self _

/-- Settles O56, by what the step does (`State.microStep_running`). -/
theorem microStepsCountDown : Obligations.MicroStepsCountDown := by
  unfold Obligations.MicroStepsCountDown
  intro s t h hrun hstep
  have hcfg : t.cfg = s.cfg := (State.KeepsPast.microStep hstep).cfg
  obtain ⟨hsp, hsilent, rfl⟩ | ⟨hsp, hspeaks, ht⟩ | ⟨hsp, d, hop, ht⟩ | ⟨hsp, ht⟩ :=
    State.microStep_running hrun hstep
  · exact ⟨fun _ _ => rfl, by simp [hsp, hsilent]⟩
  · exact ⟨fun _ hsilent => absurd (hspeaks.symm.trans hsilent) nofun, fun _ => stepsLeft_exchanged h hsp hcfg ht⟩
  · exact ⟨fun hexchange => absurd (hexchange.symm.trans hsp) nofun, fun _ => stepsLeft_waited hop hcfg ht⟩
  · exact ⟨fun hexchange => absurd (hexchange.symm.trans hsp) nofun,
      fun _ => stepsLeft_passedOn h hcfg ht⟩

/-! ## What one running step spends (R198, R201) -/

/-- How many of the draws listed are not silent. -/
def spoken (env : List Draw) : Nat := (env.filter speaks).length

theorem spoken_cons (d : Draw) (ds : List Draw) : spoken (d :: ds) = (speaks d).toNat + spoken ds := by
  cases hd : speaks d <;> simp [spoken, hd, Nat.add_comm]

theorem spoken_le_tail (env : List Draw) : spoken env ≤ spoken env.tail + 1 := by
  cases env with
  | nil => exact Nat.zero_le _
  | cons d ds =>
    have hone := Bool.toNat_le (speaks d)
    rw [spoken_cons, List.tail_cons]
    omega

theorem length_tail_lt {env : List Draw} (h : env ≠ []) : env.tail.length < env.length := by
  rw [List.length_tail]
  exact Nat.sub_one_lt (mt List.length_eq_zero_iff.mp h)

/-- The accounts of a step: the bound on the steps falls with each draw that is not silent; a draw is used up, or a
position without one passed; the bound on the exchanges falls with each request. -/
structure State.Spends (s t : State) : Prop where
  steps : stepsLeft t + spoken s.env ≤ stepsLeft s + spoken t.env
  draws : t.env.length + drawlessFrom t.sp < s.env.length + drawlessFrom s.sp
  exchanges : (requestsOf t.trace).length + exchangesFrom t.cfg t.sp ≤
    (requestsOf s.trace).length + exchangesFrom s.cfg s.sp

/-- A silent draw is spent on nothing. -/
theorem State.spends_silent {s : State} (hdraws : s.env ≠ []) (hsilent : speaks s.nextDraw = false) :
    s.Spends s.drawNext := by
  have hused := length_tail_lt hdraws
  obtain ⟨d, ds, henv⟩ := List.exists_cons_of_ne_nil hdraws
  have hspoken : spoken s.env = spoken s.env.tail := by
    rw [State.nextDraw_of_env henv] at hsilent
    rw [henv, spoken_cons, hsilent, Bool.toNat_false, Nat.zero_add, List.tail_cons]
  exact
    { steps := Nat.add_le_add_left hspoken.le _
      draws := Nat.add_lt_add_right hused _
      exchanges := Nat.le_refl _ }

theorem Inv.spends_exchanged {s t : State} (h : Inv s) (hdraws : s.env ≠ []) (hsp : s.sp.isExchange = true)
    (hcfg : t.cfg = s.cfg) (ht : s.Exchanged t) : s.Spends t := by
  have hused := length_tail_lt hdraws
  have hspoken := spoken_le_tail s.env
  have hfalls := stepsLeft_exchanged h hsp hcfg ht
  have hpast : drawlessFrom t.sp ≤ drawlessFrom s.sp ∧
      exchangesFrom s.cfg t.sp + 1 ≤ exchangesFrom s.cfg s.sp := by
    have hexchanges := exchangesFrom_next h.tableIndex
    rw [hsp, Bool.toNat_true] at hexchanges
    obtain hp | hp := ht.position <;> rw [hp]
    · exact ⟨Nat.zero_le _, (Nat.succ_le_succ (Nat.zero_le _)).trans hexchanges⟩
    · exact ⟨drawlessFrom_next_le s.cfg s.sp, hexchanges⟩
  exact
    { steps := by rw [ht.env]; omega
      draws := by rw [ht.env]; omega
      exchanges := by rw [hcfg, ht.requests]; omega }

theorem Inv.spends_waited {s t : State} {d : Duration} (h : Inv s) (hdraws : s.env ≠ [])
    (hop : s.microOp = some (.wait d)) (hcfg : t.cfg = s.cfg)
    (ht : s.Waited d t) : s.Spends t := by
  have hused := length_tail_lt hdraws
  have hspoken := spoken_le_tail s.env
  have hfalls := stepsLeft_waited hop hcfg ht
  have hpast : drawlessFrom t.sp ≤ drawlessFrom s.sp ∧ exchangesFrom s.cfg t.sp ≤ exchangesFrom s.cfg s.sp := by
    obtain ⟨-, hp⟩ | ⟨-, -, hp⟩ := ht.progress <;> rw [hp]
    · exact ⟨drawlessFrom_next_le s.cfg s.sp, le_of_add_le_left (exchangesFrom_next h.tableIndex)⟩
    · exact ⟨Nat.le_refl _, Nat.le_refl _⟩
  exact
    { steps := by rw [ht.env]; omega
      draws := by rw [ht.env]; omega
      exchanges := by rw [hcfg, ht.requests]; omega }

theorem Inv.spends_passedOn {s t : State} (h : Inv s) (hcfg : t.cfg = s.cfg) (ht : s.PassedOn t) : s.Spends t := by
  have hfalls := stepsLeft_passedOn h hcfg ht
  have hpassed := drawlessFrom_next_lt (cfg := s.cfg) ht.drawless
  have hexchanges := exchangesFrom_next h.tableIndex
  exact
    { steps := by rw [ht.env]; omega
      draws := by rw [ht.env, ht.position]; omega
      exchanges := by rw [ht.trace, hcfg, ht.position]; omega }

/-- Every step of a running operation keeps the accounts, while draws are listed. -/
theorem Inv.spends {s t : State} (h : Inv s) (hrun : s.sp ≠ .idle) (hdraws : s.env ≠ [])
    (hstep : s.microStep = .next t) : s.Spends t := by
  have hcfg : t.cfg = s.cfg := (State.KeepsPast.microStep hstep).cfg
  obtain ⟨-, hsilent, rfl⟩ | ⟨hsp, -, ht⟩ | ⟨-, d, hop, ht⟩ | ⟨-, ht⟩ :=
    State.microStep_running hrun hstep
  · exact State.spends_silent hdraws hsilent
  · exact h.spends_exchanged hdraws hsp hcfg ht
  · exact h.spends_waited hdraws hop hcfg ht
  · exact h.spends_passedOn hcfg ht

theorem State.microStep_turns {s t : State} (hstep : s.microStep = .next t) : t.turns = s.turns := by
  obtain ⟨-, rfl⟩ | ⟨-, rfl⟩ | hkeeps := State.microStep_writes hstep
  · simp [State.filled]
  · rfl
  · exact hkeeps.turns

/-- With enough draws that are not silent the operation ends, in a step a draw and one for each position without one. -/
theorem Inv.ends {s : State} (h : Inv s) (hturns : s.turns = []) (hbound : stepsLeft s ≤ spoken s.env) :
    ∃ n, ∃ t : State, n ≤ s.env.length + drawlessFrom s.sp ∧ Sys2Proof.core.run n s = .next t ∧ Inv t ∧
      t.sp = .idle ∧ (requestsOf t.trace).length ≤ (requestsOf s.trace).length + exchangesFrom s.cfg s.sp := by
  induction hm : s.env.length + drawlessFrom s.sp using Nat.strong_induction_on generalizing s with
  | _ m ih =>
    by_cases hrun : s.sp = .idle
    · exact ⟨0, s, Nat.zero_le _, rfl, h, hrun, Nat.le_add_right _ _⟩
    · have hdraws : s.env ≠ [] := by
        intro hnone
        have hpos := stepsLeft_pos hrun
        rw [hnone] at hbound
        exact absurd (Nat.lt_of_lt_of_le hpos hbound) (Nat.lt_irrefl 0)
      obtain ⟨u, hu⟩ := h.microStep_answers
      obtain ⟨hsteps, hfewer, hexchanges⟩ := h.spends hrun hdraws hu
      obtain ⟨n, t, hn, hrunt, hinv, hidle, hrequests⟩ :=
        ih _ (by omega) (h.microStep hu) ((State.microStep_turns hu).trans hturns) (by omega) rfl
      refine ⟨n + 1, t, by omega, ?_, hinv, hidle, by omega⟩
      rw [core_run_succ ((step_sequencer hturns).trans hu), hrunt]

/-- Settles O57: the run of `Inv.ends`, and both bounds on the exchanges by evaluation. -/
theorem operationsEnd : Obligations.OperationsEnd := by
  unfold Obligations.OperationsEnd
  refine ⟨fun s h hturns hbound => ?_, fun cfg => ⟨rfl, rfl⟩⟩
  obtain ⟨n, t, hn, hrun, hinv, hidle, hrequests⟩ := h.ends hturns hbound
  have hbusy : t.status.busy = false := by
    simpa [hidle] using hinv.busyAtPosition
  exact ⟨n, t, hn.trans (Nat.add_le_add_left (drawlessFrom_le s.sp) _), hrun, hidle, hbusy, hrequests⟩

end Sys2Proof.Machine
end

section
/-!
SUPPORT. Errors and their limits (60_exceptions.md): a write to OP reaches neither bus nor air (R220, R225), the error
word as a number and the record of an abort (R221, R222), and the bound on the table (R222).
-/

namespace Sys2Proof.Machine

/-! ## The write to OP (R190, R220, R225) -/

/-- Neither an acceptance nor a refusal reaches the bus or the air (R220). -/
theorem IsOpAction.keepsBus {act : State → State} (hact : IsOpAction act) (s : State) : s.KeepsBus (act s) := by
  cases hact with
  | init => exact s.acceptInit_keepsBus
  | send c _ => exact s.acceptSend_keepsBus c
  | refuse k _ _ => exact {}

/-- The later state has the same INITD, and the same WARN unless SP is at I0, where an accepted INIT clears it (R161). -/
structure State.KeepsInitdWarn (s t : State) : Prop where
  initd : t.status.initd = s.status.initd := by simp
  warn : t.status.warn = s.status.warn ∨ t.sp = .i0 := by simp

theorem State.acceptInit_keepsInitdWarn (s : State) : s.KeepsInitdWarn s.acceptInit := by
  obtain ⟨-, hrefused⟩ | ⟨-, haccepted⟩ := s.acceptInit_cases
  · rw [hrefused]; exact {}
  · rw [haccepted]; exact {}

theorem State.acceptSend_keepsInitdWarn (s : State) (c : Nibble) : s.KeepsInitdWarn (s.acceptSend c) := by
  obtain ⟨-, hrefused⟩ | ⟨-, -, hrefused⟩ | ⟨-, -, haccepted⟩ := s.acceptSend_cases c
  · rw [hrefused]; exact {}
  · rw [hrefused]; exact {}
  · rw [haccepted]; exact {}

theorem IsOpAction.keepsInitdWarn {act : State → State} (hact : IsOpAction act) (s : State) :
    s.KeepsInitdWarn (act s) := by
  cases hact with
  | init => exact s.acceptInit_keepsInitdWarn
  | send c _ => exact s.acceptSend_keepsInitdWarn c
  | refuse k _ _ => exact {}

/-- The clearing of DONE and ERR before the action leaves both bits (R190). -/
theorem State.writeOp_keepsInitdWarn (s : State) {act : State → State} (hact : IsOpAction act) :
    s.KeepsInitdWarn (s.writeOp act) := by
  cases hbusy : s.status.busy with
  | true => rw [State.writeOp_busy act hbusy]; exact {}
  | false => rw [State.writeOp_idle act hbusy]; exact { hact.keepsInitdWarn s.clearOutcome with }

/-- Settles O23: whatever the byte, the write is one of the actions of `IsOpAction`; a clause from each of their frames. -/
theorem opWriteMakesNoExchange : Obligations.OpWriteMakesNoExchange := by
  unfold Obligations.OpWriteMakesNoExchange
  intro s t b hwrite
  have hcfg : t.cfg = s.cfg := (State.KeepsPast.writeOpByte hwrite).cfg
  obtain ⟨act, hact, heq⟩ := State.writeOpByte_action b
  obtain rfl : s.writeOp act = t := Host.Outcome.next.inj ((heq s).symm.trans hwrite)
  obtain ⟨hrdv, hwt, hdev, htrace, hair⟩ := s.writeOp_keepsBus hact.keepsBus
  obtain ⟨hkey, haddr, hrc, hbufs, -, -, hkv, hav, hrv, -⟩ := State.KeepsRegisters.writeOp s hact
  obtain ⟨hinitd, hwarn⟩ := s.writeOp_keepsInitdWarn hact
  exact ⟨htrace, hair, hdev, hkey, haddr, hrc, hbufs, hrdv, hwt, hcfg, hinitd, hkv, hav, hrv, hwarn.resolve_left⟩

/-! ## The table (R6 b, R222) -/

/-- Settles O35: the addresses of the table are different bytes, and there are 256 bytes. -/
theorem tableFitsTheIndex : Obligations.TableFitsTheIndex := by
  unfold Obligations.TableFitsTheIndex
  intro cfg
  calc cfg.params.nCfg
    _ = (cfg.params.cfgTable.map Prod.fst).length := (List.length_map _).symm
    _ ≤ Fintype.card Byte := (tableAddresses_nodup cfg).length_le_card
    _ = 256 := FinEnum.card_eq_fintypeCard.symm

/-! ## The record of an abort (R221, R222) -/

/-- KIND, PHASE and INDEX are fields that do not overlap (R27). -/
theorem errorWord_eq_append (k : Kind) (p : Phase) (i : BitVec 8) : errorWord k p i = k.code ++ p.code ++ i := by
  have hlow := BitVec.setWidth_append_eq_shiftLeft_setWidth_or (w'' := 16) (b := k.code ++ p.code) (b' := i)
  have hhigh := BitVec.setWidth_append_eq_shiftLeft_setWidth_or (w'' := 16) (b := k.code) (b' := p.code)
  rw [hhigh, BitVec.shiftLeft_or_distrib, ← BitVec.shiftLeft_add] at hlow
  simpa [errorWord] using hlow.symm

/-- The error word as a number, its fields as digits. -/
theorem toNat_errorWord (k : Kind) (p : Phase) (i : BitVec 8) :
    (errorWord k p i).toNat = k.code.toNat * 0x1000 + p.code.toNat * 0x100 + i.toNat := by
  simp only [errorWord_eq_append, BitVec.toNat_append]
  rw [← Nat.shiftLeft_add_eq_or_of_lt i.isLt, ← Nat.shiftLeft_add_eq_or_of_lt p.code.isLt]
  omega

/-- The record of an abort at a position: KIND 1, the code of its phase, and an index below 256 as it is (R222). -/
theorem toNat_abortRecord {p : Pos} {n : Nat} (hindex : p.index = BitVec.ofNat 8 n) (hn : n < 256) :
    (errorWord .transport p.phase p.index).toNat = 0x1000 + p.phase.code.toNat * 0x100 + n := by
  rw [toNat_errorWord, hindex, BitVec.toNat_ofNat, Nat.mod_eq_of_lt hn]
  rfl

/-- Settles O34: at each position by `toNat_abortRecord`, with the code of its phase. -/
theorem abortRecordNamesThePosition : Obligations.AbortRecordNamesThePosition := by
  unfold Obligations.AbortRecordNamesThePosition
  refine ⟨rfl, fun j hj => ?table, rfl, rfl, rfl, fun k => ?frame⟩
  case table => simpa [Pos.phase, Phase.code] using toNat_abortRecord (p := .i2 j) rfl hj
  case frame =>
    have hk : k.val < 256 := by omega
    exact ⟨by simpa [Pos.phase, Phase.code] using toNat_abortRecord (p := .fa k) rfl hk,
      by simpa [Pos.phase, Phase.code] using toNat_abortRecord (p := .fb k) rfl hk⟩

end Sys2Proof.Machine
end

section
/-!
SUPPORT. The block's reset as a turn (70_reset_and_hazards.md R260): the registers of 10_state.md R39, and what of the
transceiver, the configuration and the past it leaves.
-/

namespace Sys2Proof.Machine

/-- A reset turn is the block's reset of the state with that turn taken off the list, whatever runs (R260). -/
theorem step_reset {s : State} {rest : List Turn} (h : s.turns = .reset :: rest) :
    step s = .next (State.blockReset { s with turns := rest }) := step_turn h

/-- STATUS reads zero after the block's reset (R39). -/
theorem State.blockReset_status_toByte (s : State) : s.blockReset.status.toByte = 0 := by
  obtain ⟨hstatus, -⟩ := resetState
  exact hstatus

/-- No register of the device is known after the block's reset (R39). -/
theorem State.blockReset_read? (s : State) (a : Nat) : s.blockReset.dev.regs.read? a = none := Memory.read?_nil a

/-- Settles O46: STATUS and the device's registers by their lemmas; each other field is given or kept by `blockReset`. -/
theorem blockResetStep : Obligations.BlockResetStep := by
  unfold Obligations.BlockResetStep
  intro s rest hturns
  exact ⟨_, step_reset hturns, State.blockReset_status_toByte _, rfl, rfl, rfl, rfl, State.blockReset_read? _,
    rfl, rfl, rfl, rfl, rfl, rfl, rfl, rfl⟩

end Sys2Proof.Machine
end
